-- ==== Sys2Proof/Word.lean ====
section
/-! DEFINITION. The word types of the ET24's link: bytes, 16-bit halves and 32-bit words (chapter The Message Link, R203, R218).
Every physical quantity inside the part is an exact integer (R1, section 1.4), so these types are used for what the spec
treats as bits: bytes of frames, fields of payloads, and the counters that wrap modulo 2^32. -/

namespace Sys2Proof

/-- One byte of a frame (section 11, R203). -/
abbrev Byte := BitVec 8

/-- A field of two bytes (R217, R218). -/
abbrev Half := BitVec 16

/-- A field of four bytes, and every counter that wraps from 2^32 - 1 to 0 (R50, R66, R102). -/
abbrev Word := BitVec 32

end Sys2Proof
end

