-- ==== Sys2Proof/Config.lean ====
section
/-! DEFINITION. What the spec leaves open, as constants without a body: nothing can be proved about their values. -/

namespace Sys2Proof

/-- The four bytes that stand for a signed number outside -2^31 .. 2^31 - 1 in a four-byte field. R218 gives signed
numbers in two's complement and no rule for a number that does not fit (a shunt deviation of an extended segment, R4 and
R21; a source offset, R58: "The offset is not clamped"). A free value: every statement holds for every choice of it.
DESIGN CHOICE, notes/assumptions/1.md. -/
opaque Config.outsideWord : Int → Word

/-- Which of the two phases of the encoder's channels means a step of the crosshead up. R66 counts "in the direction that the
phase of the two channels gives" and names no phase: in one direction of travel the old level of channel A differs from the
new level of channel B at every step, in the other they agree. A free value: true when they differ at a step up. DESIGN
CHOICE, notes/assumptions/8.md. -/
opaque Config.upPhase : Bool

/-- The microseconds since the last tick of part time at the n-th INPUT_CONFIG that looks for a due pending change. R99 takes a
pending change whose raw level "has already stood that long", R102 says that DIO measures the time within a millisecond, and
the command does not carry it. A free value. DESIGN CHOICE, notes/assumptions/5.md. -/
opaque Config.timeOfConfig : Nat → Fin 1000

end Sys2Proof
end

