-- ==== Sys2Proof/Syntax.lean ====
section
/-! DEFINITION. The commands of the block: one constructor of `Instr` per row of spec/opcode_table.json, with the row's
operands. A request row carries the tag and the payload fields of its frame, each in the size that R217 gives it; the
decoded form of a request frame is `Request`. -/

namespace Sys2Proof

/-- The two arms of the extensometer (chapter Extensometer Arms). -/
inductive Arm where
  | a | b
  deriving DecidableEq, Repr

/-- The ten discrete inputs, in index order (section 5.1). -/
inductive Input where
  | estop | guard | limitUp | limitDown | gripUpper | gripLower | extASeat | extBSeat | driveReady | aux
  deriving DecidableEq, Repr

/-- What a frame carries between its start byte and its CRC, less the length byte, which is the number of payload bytes
(R203, R219). -/
structure Frame where
  kind : Byte
  tag : Byte
  payload : List Byte
  deriving DecidableEq, Repr

/-- The payload of FRAME_CONFIG: the 12 fields of R92 in table order, 4 bytes each (R217). -/
structure FrameConfigFields where
  maxSpeed : Word
  guardSpeed : Word
  fullScale : Word
  softLower : Word
  softUpper : Word
  trackTolerance : Word
  tau : Word
  kpPos : Word
  kStrain : Word
  kStress : Word
  compliance : Word
  frameOverload : Word
  deriving DecidableEq, Repr

/-- One arm's fields in the payload of EXT_CONFIG (R26, R217). -/
structure ArmConfigFields where
  enabled : Byte
  scale : Word
  span : Word
  slip : Word
  deriving DecidableEq, Repr

/-- The payload of EXT_CONFIG: arm A, arm B, then the five shared fields (R26, R217). -/
structure ExtConfigFields where
  armA : ArmConfigFields
  armB : ArmConfigFields
  pullIn : Half
  holdOn : Half
  holdOff : Half
  seatTimeout : Half
  releaseTimeout : Half
  deriving DecidableEq, Repr

/-- The 88-byte spec layout of section 11.8: a presence word, then fields 1 to 22 of section 7.2. A text is its length
byte and its character bytes, 16 for the specimen text and 12 for the cast text. -/
structure SpecFields where
  presence : Half
  s0 : Word
  l0 : Word
  lc : Word
  eNominal : Word
  specimenLength : Byte
  specimen : List Byte
  castLength : Byte
  cast : List Byte
  plan : Byte
  fitLower : Word
  fitUpper : Word
  offset : Half
  yieldDrop : Half
  transient : Half
  yieldLimit : Word
  yieldEnd : Word
  armLoad : Word
  breakStep : Byte
  breakFloor : Byte
  testOverload : Word
  returnAfter : Byte
  returnSpeed : Word
  traceBase : Byte
  stepCount : Byte
  deriving DecidableEq, Repr

/-- The 20-byte step layout of section 11.8 less the slot index: the nine fields of a step record (section 7.3), as bytes. -/
structure StepRecord where
  mode : Byte
  rate : Word
  transition : Half
  count : Byte
  quantity1 : Byte
  threshold1 : Word
  quantity2 : Byte
  threshold2 : Word
  release : Byte
  deriving DecidableEq, Repr

/-- A decoded request of the catalogue (R217): which request it is, and its payload fields as sent. -/
inductive Request where
  | ping (payload : List Byte)
  | statusRead
  | readNow
  | eventRead (n : Byte)
  | restart
  | inputConfig (index polarity debounce route : Byte)
  | frameConfig (fields : FrameConfigFields)
  | calWrite (range : Byte) (points : List (Word × Word))
  | calRead (range : Byte)
  | shuntConfig (range : Byte) (expected tolerance : Word)
  | loadRange (mode : Byte)
  | tare
  | shuntCheck
  | extConfig (fields : ExtConfigFields)
  | extSeat (select : Byte)
  | extZero (select : Byte)
  | extRelease (select : Byte)
  | positionZero
  | driveOn
  | driveOff
  | tripClear
  | monitorTest
  | jog (speed : Word)
  | moveTo (target speed : Word)
  | stop
  | profileSpecWrite (fields : SpecFields)
  | profileStepWrite (slot : Byte) (record : StepRecord)
  | profileCommit
  | profileRead (copy part : Byte)
  | testStart
  | testHold
  | testResume
  | testAbort
  | resultRead
  | traceConfig (streaming base : Byte)
  deriving DecidableEq, Repr

/-- What the decoding of a frame gives (R209): a request of the catalogue, or one of the two refusals the link makes itself. -/
inductive Decoded where
  | request (r : Request)
  | badKind
  | badLength
  deriving DecidableEq, Repr

/-- The commands of the block: one constructor per row of spec/opcode_table.json. A request command stands for a frame of
that request which has passed its CRC test (R208); the events of the machine side carry what the arriving part measures. -/
inductive Instr where
  /-- POWER_ON_RESET (R216): the strap levels, the raw level of each input (bit n is input n, set when high) and the two
  encoder channels at the reset. -/
  | powerOnReset (rateSelB rateSelA : Bool) (levels : BitVec 10) (chanA chanB : Bool)
  /-- PART_TIME_TICK (R102). -/
  | partTimeTick
  /-- RECEIVE_BYTE (R205): the byte, and whether its stop bit read spacing. -/
  | receiveByte (byte : Byte) (framingError : Bool)
  /-- GAP_TIMER_EXPIRY (R206). -/
  | gapTimerExpiry
  /-- HALT (R207): the receive line has been at spacing for 20 bit times. -/
  | halt
  /-- BREAK_END (R207): the receive line returns to marking. -/
  | breakEnd
  /-- UNKNOWN_KIND_REQUEST (R209): a complete frame whose kind is no request kind. -/
  | unknownKindRequest (kind tag : Byte) (payload : List Byte)
  /-- REPLY_FRAME_END (R213). -/
  | replyFrameEnd
  /-- TRACE_FRAME_END (R195, R213). -/
  | traceFrameEnd
  /-- PING (R217): 0 to 236 bytes. -/
  | ping (tag : Byte) (payload : List Byte)
  /-- STATUS_READ (R223). -/
  | statusRead (tag : Byte)
  /-- READ_NOW (R223). -/
  | readNow (tag : Byte)
  /-- EVENT_READ (R106): the count. -/
  | eventRead (tag : Byte) (n : Byte)
  /-- RESTART (R215). -/
  | restart (tag : Byte)
  /-- INPUT_CONFIG (R99). -/
  | inputConfig (tag : Byte) (index polarity debounce route : Byte)
  /-- FRAME_CONFIG (R92). -/
  | frameConfig (tag : Byte) (fields : FrameConfigFields)
  /-- CAL_WRITE (R13): range, and the points as raw code and load; the count byte is the number of points. -/
  | calWrite (tag : Byte) (range : Byte) (points : List (Word × Word))
  /-- CAL_READ (R14). -/
  | calRead (tag : Byte) (range : Byte)
  /-- SHUNT_CONFIG (R18). -/
  | shuntConfig (tag : Byte) (range : Byte) (expected tolerance : Word)
  /-- LOAD_RANGE (R9). -/
  | loadRange (tag : Byte) (mode : Byte)
  /-- TARE (R15). -/
  | tare (tag : Byte)
  /-- SHUNT_CHECK (R19). -/
  | shuntCheck (tag : Byte)
  /-- EXT_CONFIG (R26). -/
  | extConfig (tag : Byte) (fields : ExtConfigFields)
  /-- EXT_SEAT (R35): the arm select code. -/
  | extSeat (tag : Byte) (select : Byte)
  /-- EXT_ZERO (R38). -/
  | extZero (tag : Byte) (select : Byte)
  /-- EXT_RELEASE (R44). -/
  | extRelease (tag : Byte) (select : Byte)
  /-- POSITION_ZERO (R69). -/
  | positionZero (tag : Byte)
  /-- DRIVE_ON (R110). -/
  | driveOn (tag : Byte)
  /-- DRIVE_OFF (R114). -/
  | driveOff (tag : Byte)
  /-- TRIP_CLEAR (R122). -/
  | tripClear (tag : Byte)
  /-- MONITOR_TEST (R90). -/
  | monitorTest (tag : Byte)
  /-- JOG (R84): the signed speed. -/
  | jog (tag : Byte) (speed : Word)
  /-- MOVE_TO (R86): target position and speed. -/
  | moveTo (tag : Byte) (target speed : Word)
  /-- STOP (R88). -/
  | stop (tag : Byte)
  /-- PROFILE_SPEC_WRITE (R131). -/
  | profileSpecWrite (tag : Byte) (fields : SpecFields)
  /-- PROFILE_STEP_WRITE (R132): slot index and step record. -/
  | profileStepWrite (tag : Byte) (slot : Byte) (record : StepRecord)
  /-- PROFILE_COMMIT (R133). -/
  | profileCommit (tag : Byte)
  /-- PROFILE_READ (R141): copy code and part code. -/
  | profileRead (tag : Byte) (copy part : Byte)
  /-- TEST_START (R145). -/
  | testStart (tag : Byte)
  /-- TEST_HOLD (R153). -/
  | testHold (tag : Byte)
  /-- TEST_RESUME (R155). -/
  | testResume (tag : Byte)
  /-- TEST_ABORT (R161). -/
  | testAbort (tag : Byte)
  /-- RESULT_READ (R187). -/
  | resultRead (tag : Byte)
  /-- TRACE_CONFIG (R198). -/
  | traceConfig (tag : Byte) (streaming base : Byte)
  /-- LOAD_CONVERSION (R2): the 24-bit signed raw code. -/
  | loadConversion (raw : BitVec 24)
  /-- EXT_CONVERSION (R27): the arm the multiplexer is set to, and the 24-bit signed raw code. -/
  | extConversion (arm : Arm) (raw : BitVec 24)
  /-- ENCODER_TRANSITION (R66): the new sample of the two channels. The last operand is a note of the sender, the direction in
  which the crosshead moved; the encoder logic sees the two channels alone, and no meaning reads the note. -/
  | encoderTransition (chanA chanB up : Bool)
  /-- SERVO_EXPIRY (R72). -/
  | servoExpiry
  /-- JOG_LAPSE (R85). -/
  | jogLapse
  /-- PULL_IN_END (R33) of one arm's solenoid. -/
  | pullInEnd (arm : Arm)
  /-- HOLD_PHASE_END (R101) of one arm's solenoid output. -/
  | holdPhaseEnd (arm : Arm)
  /-- SEAT_TIMEOUT (R37). -/
  | seatTimeout (arm : Arm)
  /-- RELEASE_TIMEOUT (R46). -/
  | releaseTimeout (arm : Arm)
  /-- RAW_INPUT_CHANGE (R96): the input, its raw level (true is high), and the microseconds since the last tick of part time. -/
  | rawInputChange (input : Input) (level : Bool) (us : Fin 1000)
  /-- DEBOUNCE_END (R96): the input, and the microseconds since the last tick of part time. -/
  | debounceEnd (input : Input) (us : Fin 1000)
  deriving DecidableEq, Repr

end Sys2Proof
end

