-- ==== Sys2Proof/WellFormed.lean ====
section
/-! DEFINITION. Well-formed commands: those whose operands fit the frame they stand for (R203, R217). -/

namespace Sys2Proof

/-- The greatest number of payload bytes of a frame (R203). -/
def maxPayload : Nat := 240

/-- The greatest number of payload bytes of a PING (R217). -/
def maxPingPayload : Nat := 236

/-- Whether a kind byte is the kind of a request in the catalogue of R217 (0x01 to 0x23). -/
def isRequestKind (kind : Byte) : Bool := 1 ≤ kind.toNat && kind.toNat ≤ 0x23

/-- The operands of a SPEC layout are well-formed when each text has its full number of character bytes (section 11.8). -/
def SpecFields.wellFormed (f : SpecFields) : Bool := f.specimen.length == 16 && f.cast.length == 12

/-- A command is well-formed when the frame it stands for can be carried: a PING of at most 236 bytes, a CAL_WRITE whose
points fit in 240 bytes, a spec layout of 88 bytes, and an unknown kind that is no request kind with at most 240 bytes. -/
def Instr.wellFormed : Instr → Bool
  | .ping _ payload => payload.length ≤ maxPingPayload
  | .calWrite _ _ points => 2 + 8 * points.length ≤ maxPayload
  | .profileSpecWrite _ fields => fields.wellFormed
  | .unknownKindRequest kind _ payload => !isRequestKind kind && payload.length ≤ maxPayload
  | .powerOnReset _ _ _ _ _ => true
  | .partTimeTick => true
  | .receiveByte _ _ => true
  | .gapTimerExpiry => true
  | .halt => true
  | .breakEnd => true
  | .replyFrameEnd => true
  | .traceFrameEnd => true
  | .statusRead _ => true
  | .readNow _ => true
  | .eventRead _ _ => true
  | .restart _ => true
  | .inputConfig _ _ _ _ _ => true
  | .frameConfig _ _ => true
  | .calRead _ _ => true
  | .shuntConfig _ _ _ _ => true
  | .loadRange _ _ => true
  | .tare _ => true
  | .shuntCheck _ => true
  | .extConfig _ _ => true
  | .extSeat _ _ => true
  | .extZero _ _ => true
  | .extRelease _ _ => true
  | .positionZero _ => true
  | .driveOn _ => true
  | .driveOff _ => true
  | .tripClear _ => true
  | .monitorTest _ => true
  | .jog _ _ => true
  | .moveTo _ _ _ => true
  | .stop _ => true
  | .profileStepWrite _ _ _ => true
  | .profileCommit _ => true
  | .profileRead _ _ _ => true
  | .testStart _ => true
  | .testHold _ => true
  | .testResume _ => true
  | .testAbort _ => true
  | .resultRead _ => true
  | .traceConfig _ _ _ => true
  | .loadConversion _ => true
  | .extConversion _ _ => true
  | .encoderTransition _ _ _ => true
  | .servoExpiry => true
  | .jogLapse => true
  | .pullInEnd _ => true
  | .holdPhaseEnd _ => true
  | .seatTimeout _ => true
  | .releaseTimeout _ => true
  | .rawInputChange _ _ _ => true
  | .debounceEnd _ _ => true

/-- A decoded request is well-formed when its frame is a frame of R203 with the length of R217. -/
def Request.wellFormed : Request → Bool
  | .ping payload => payload.length ≤ maxPingPayload
  | .calWrite _ points => 2 + 8 * points.length ≤ maxPayload
  | .profileSpecWrite fields => fields.wellFormed
  | _ => true

end Sys2Proof
end

