-- ==== Sys2Proof/Decode.lean ====
section
/-! DEFINITION. The link's byte layouts: multi-byte fields (R218), the CRC (R204), the envelope (R203, R219), the decoding
of a request frame (R209, R217) and, after it, the frame of each request. At the end, the host's `decodeTableWord`: no row
of spec/opcode_table.json gives bits. -/

namespace Sys2Proof

/-! ### Fields of more than one byte, high byte first (R218) -/

/-- The two bytes of a half, high byte first. -/
def halfBytes (h : Half) : List Byte := [h.extractLsb' 8 8, h.extractLsb' 0 8]

/-- The four bytes of a word, high byte first. -/
def wordBytes (w : Word) : List Byte :=
  [w.extractLsb' 24 8, w.extractLsb' 16 8, w.extractLsb' 8 8, w.extractLsb' 0 8]

/-- The byte at an offset of a payload. Offsets are read only after the length test of R209. -/
def byteAt (p : List Byte) (i : Nat) : Byte := p.getD i 0

/-- The two-byte field at an offset. -/
def halfAt (p : List Byte) (i : Nat) : Half := byteAt p i ++ byteAt p (i + 1)

/-- The four-byte field at an offset. -/
def wordAt (p : List Byte) (i : Nat) : Word :=
  ((byteAt p i ++ byteAt p (i + 1)) ++ byteAt p (i + 2)) ++ byteAt p (i + 3)

/-- A number of bytes from an offset. -/
def bytesAt (p : List Byte) (i n : Nat) : List Byte := (p.drop i).take n

/-! ### The CRC (R204) -/

/-- One of the 8 shifts of a byte. -/
def crcShift (r : Half) : Half := if r.getLsbD 15 then (r <<< 1) ^^^ 0x1021#16 else r <<< 1

/-- A byte taken into the register: XORed into the upper 8 bits, then shifted 8 times. -/
def crcByte (r : Half) (b : Byte) : Half :=
  crcShift (crcShift (crcShift (crcShift (crcShift (crcShift (crcShift (crcShift (r ^^^ (b ++ 0#8)))))))))

/-- The CRC over a list of bytes; the register starts at 0xFFFF. -/
def crcOf (bytes : List Byte) : Half := bytes.foldl crcByte 0xFFFF#16

/-- The length byte of a frame. -/
def Frame.lengthByte (f : Frame) : Byte := BitVec.ofNat 8 f.payload.length

/-- The CRC of a frame is formed over the length, kind, tag and payload bytes (R204). -/
def Frame.crc (f : Frame) : Half := crcOf (f.lengthByte :: f.kind :: f.tag :: f.payload)

/-- The start byte of every frame (R203). -/
def startByte : Byte := 0xC5#8

/-- The bytes of a frame on the line, in either direction (R203, R219). -/
def Frame.bytes (f : Frame) : List Byte :=
  startByte :: f.lengthByte :: f.kind :: f.tag :: (f.payload ++ halfBytes f.crc)

/-! ### Decoding a request frame (R209, R217) -/

/-- The fields of a FRAME_CONFIG payload. -/
def readFrameConfig (p : List Byte) : FrameConfigFields where
  maxSpeed := wordAt p 0
  guardSpeed := wordAt p 4
  fullScale := wordAt p 8
  softLower := wordAt p 12
  softUpper := wordAt p 16
  trackTolerance := wordAt p 20
  tau := wordAt p 24
  kpPos := wordAt p 28
  kStrain := wordAt p 32
  kStress := wordAt p 36
  compliance := wordAt p 40
  frameOverload := wordAt p 44

/-- One arm's fields of an EXT_CONFIG payload, at their offset. -/
def readArmConfig (p : List Byte) (i : Nat) : ArmConfigFields where
  enabled := byteAt p i
  scale := wordAt p (i + 1)
  span := wordAt p (i + 5)
  slip := wordAt p (i + 9)

/-- The fields of an EXT_CONFIG payload. -/
def readExtConfig (p : List Byte) : ExtConfigFields where
  armA := readArmConfig p 0
  armB := readArmConfig p 13
  pullIn := halfAt p 26
  holdOn := halfAt p 28
  holdOff := halfAt p 30
  seatTimeout := halfAt p 32
  releaseTimeout := halfAt p 34

/-- The points of a CAL_WRITE payload: raw code and load, 4 bytes each. -/
def readPoints (p : List Byte) : Nat → Nat → List (Word × Word)
  | _, 0 => []
  | i, n + 1 => (wordAt p i, wordAt p (i + 4)) :: readPoints p (i + 8) n

/-- The fields of the spec layout. -/
def readSpec (p : List Byte) : SpecFields where
  presence := halfAt p 0
  s0 := wordAt p 2
  l0 := wordAt p 6
  lc := wordAt p 10
  eNominal := wordAt p 14
  specimenLength := byteAt p 18
  specimen := bytesAt p 19 16
  castLength := byteAt p 35
  cast := bytesAt p 36 12
  plan := byteAt p 48
  fitLower := wordAt p 49
  fitUpper := wordAt p 53
  offset := halfAt p 57
  yieldDrop := halfAt p 59
  transient := halfAt p 61
  yieldLimit := wordAt p 63
  yieldEnd := wordAt p 67
  armLoad := wordAt p 71
  breakStep := byteAt p 75
  breakFloor := byteAt p 76
  testOverload := wordAt p 77
  returnAfter := byteAt p 81
  returnSpeed := wordAt p 82
  traceBase := byteAt p 86
  stepCount := byteAt p 87

/-- The record fields of the step layout, after the slot index. -/
def readStep (p : List Byte) : StepRecord where
  mode := byteAt p 1
  rate := wordAt p 2
  transition := halfAt p 6
  count := byteAt p 8
  quantity1 := byteAt p 9
  threshold1 := wordAt p 10
  quantity2 := byteAt p 14
  threshold2 := wordAt p 15
  release := byteAt p 19

/-- A request of a fixed payload length: refused BAD_LENGTH at any other length (R209). -/
def fixedLength (n : Nat) (p : List Byte) (r : Request) : Decoded :=
  if p.length = n then .request r else .badLength

/-- A PING carries 0 to 236 bytes (R217). -/
def decodePing (p : List Byte) : Decoded :=
  if p.length ≤ maxPingPayload then .request (.ping p) else .badLength

/-- The length of a CAL_WRITE is 2 + 8 times its count byte, and at least 2 (R217). -/
def decodeCalWrite (p : List Byte) : Decoded :=
  if 2 ≤ p.length ∧ p.length = 2 + 8 * (byteAt p 1).toNat then
    .request (.calWrite (byteAt p 0) (readPoints p 2 (byteAt p 1).toNat))
  else .badLength

/-- The decoding of a request frame by the catalogue of R217: kind first, then length (R209). -/
def decodeFrame (f : Frame) : Decoded :=
  match f.kind.toNat with
  | 0x01 => decodePing f.payload
  | 0x02 => fixedLength 0 f.payload .statusRead
  | 0x03 => fixedLength 0 f.payload .readNow
  | 0x04 => fixedLength 1 f.payload (.eventRead (byteAt f.payload 0))
  | 0x05 => fixedLength 0 f.payload .restart
  | 0x06 => fixedLength 4 f.payload
      (.inputConfig (byteAt f.payload 0) (byteAt f.payload 1) (byteAt f.payload 2) (byteAt f.payload 3))
  | 0x07 => fixedLength 48 f.payload (.frameConfig (readFrameConfig f.payload))
  | 0x08 => decodeCalWrite f.payload
  | 0x09 => fixedLength 1 f.payload (.calRead (byteAt f.payload 0))
  | 0x0A => fixedLength 9 f.payload (.shuntConfig (byteAt f.payload 0) (wordAt f.payload 1) (wordAt f.payload 5))
  | 0x0B => fixedLength 1 f.payload (.loadRange (byteAt f.payload 0))
  | 0x0C => fixedLength 0 f.payload .tare
  | 0x0D => fixedLength 0 f.payload .shuntCheck
  | 0x0E => fixedLength 36 f.payload (.extConfig (readExtConfig f.payload))
  | 0x0F => fixedLength 1 f.payload (.extSeat (byteAt f.payload 0))
  | 0x10 => fixedLength 1 f.payload (.extZero (byteAt f.payload 0))
  | 0x11 => fixedLength 1 f.payload (.extRelease (byteAt f.payload 0))
  | 0x12 => fixedLength 0 f.payload .positionZero
  | 0x13 => fixedLength 0 f.payload .driveOn
  | 0x14 => fixedLength 0 f.payload .driveOff
  | 0x15 => fixedLength 0 f.payload .tripClear
  | 0x16 => fixedLength 0 f.payload .monitorTest
  | 0x17 => fixedLength 4 f.payload (.jog (wordAt f.payload 0))
  | 0x18 => fixedLength 8 f.payload (.moveTo (wordAt f.payload 0) (wordAt f.payload 4))
  | 0x19 => fixedLength 0 f.payload .stop
  | 0x1A => fixedLength 88 f.payload (.profileSpecWrite (readSpec f.payload))
  | 0x1B => fixedLength 20 f.payload (.profileStepWrite (byteAt f.payload 0) (readStep f.payload))
  | 0x1C => fixedLength 0 f.payload .profileCommit
  | 0x1D => fixedLength 2 f.payload (.profileRead (byteAt f.payload 0) (byteAt f.payload 1))
  | 0x1E => fixedLength 0 f.payload .testStart
  | 0x1F => fixedLength 0 f.payload .testHold
  | 0x20 => fixedLength 0 f.payload .testResume
  | 0x21 => fixedLength 0 f.payload .testAbort
  | 0x22 => fixedLength 0 f.payload .resultRead
  | 0x23 => fixedLength 2 f.payload (.traceConfig (byteAt f.payload 0) (byteAt f.payload 1))
  | _ => .badKind

/-! ### The frame of a request (R217) -/

/-- The payload of a FRAME_CONFIG. -/
def frameConfigBytes (f : FrameConfigFields) : List Byte :=
  wordBytes f.maxSpeed ++ wordBytes f.guardSpeed ++ wordBytes f.fullScale ++ wordBytes f.softLower ++
  wordBytes f.softUpper ++ wordBytes f.trackTolerance ++ wordBytes f.tau ++ wordBytes f.kpPos ++
  wordBytes f.kStrain ++ wordBytes f.kStress ++ wordBytes f.compliance ++ wordBytes f.frameOverload

/-- One arm's part of an EXT_CONFIG payload. -/
def armConfigBytes (f : ArmConfigFields) : List Byte :=
  f.enabled :: (wordBytes f.scale ++ wordBytes f.span ++ wordBytes f.slip)

/-- The payload of an EXT_CONFIG. -/
def extConfigBytes (f : ExtConfigFields) : List Byte :=
  armConfigBytes f.armA ++ armConfigBytes f.armB ++ halfBytes f.pullIn ++ halfBytes f.holdOn ++
  halfBytes f.holdOff ++ halfBytes f.seatTimeout ++ halfBytes f.releaseTimeout

/-- The points of a CAL_WRITE payload. -/
def pointBytes : List (Word × Word) → List Byte
  | [] => []
  | (code, load) :: rest => wordBytes code ++ wordBytes load ++ pointBytes rest

/-- The spec layout of section 11.8. -/
def specBytes (f : SpecFields) : List Byte :=
  halfBytes f.presence ++ wordBytes f.s0 ++ wordBytes f.l0 ++ wordBytes f.lc ++ wordBytes f.eNominal ++
  f.specimenLength :: (f.specimen ++ f.castLength :: (f.cast ++ f.plan :: (wordBytes f.fitLower ++
  wordBytes f.fitUpper ++ halfBytes f.offset ++ halfBytes f.yieldDrop ++ halfBytes f.transient ++
  wordBytes f.yieldLimit ++ wordBytes f.yieldEnd ++ wordBytes f.armLoad ++ f.breakStep :: f.breakFloor ::
  (wordBytes f.testOverload ++ f.returnAfter :: (wordBytes f.returnSpeed ++ [f.traceBase, f.stepCount])))))

/-- The step layout of section 11.8. -/
def stepBytes (slot : Byte) (f : StepRecord) : List Byte :=
  slot :: f.mode :: (wordBytes f.rate ++ halfBytes f.transition ++ f.count :: f.quantity1 ::
  (wordBytes f.threshold1 ++ f.quantity2 :: (wordBytes f.threshold2 ++ [f.release])))

/-- The kind byte of a request (R217). -/
def Request.kind : Request → Byte
  | .ping _ => 0x01
  | .statusRead => 0x02
  | .readNow => 0x03
  | .eventRead _ => 0x04
  | .restart => 0x05
  | .inputConfig _ _ _ _ => 0x06
  | .frameConfig _ => 0x07
  | .calWrite _ _ => 0x08
  | .calRead _ => 0x09
  | .shuntConfig _ _ _ => 0x0A
  | .loadRange _ => 0x0B
  | .tare => 0x0C
  | .shuntCheck => 0x0D
  | .extConfig _ => 0x0E
  | .extSeat _ => 0x0F
  | .extZero _ => 0x10
  | .extRelease _ => 0x11
  | .positionZero => 0x12
  | .driveOn => 0x13
  | .driveOff => 0x14
  | .tripClear => 0x15
  | .monitorTest => 0x16
  | .jog _ => 0x17
  | .moveTo _ _ => 0x18
  | .stop => 0x19
  | .profileSpecWrite _ => 0x1A
  | .profileStepWrite _ _ => 0x1B
  | .profileCommit => 0x1C
  | .profileRead _ _ => 0x1D
  | .testStart => 0x1E
  | .testHold => 0x1F
  | .testResume => 0x20
  | .testAbort => 0x21
  | .resultRead => 0x22
  | .traceConfig _ _ => 0x23

/-- The payload bytes of a request (R217). -/
def Request.payload : Request → List Byte
  | .ping p => p
  | .eventRead n => [n]
  | .inputConfig index polarity debounce route => [index, polarity, debounce, route]
  | .frameConfig f => frameConfigBytes f
  | .calWrite range points => range :: BitVec.ofNat 8 points.length :: pointBytes points
  | .calRead range => [range]
  | .shuntConfig range expected tolerance => range :: (wordBytes expected ++ wordBytes tolerance)
  | .loadRange mode => [mode]
  | .extConfig f => extConfigBytes f
  | .extSeat select => [select]
  | .extZero select => [select]
  | .extRelease select => [select]
  | .jog speed => wordBytes speed
  | .moveTo target speed => wordBytes target ++ wordBytes speed
  | .profileSpecWrite f => specBytes f
  | .profileStepWrite slot record => stepBytes slot record
  | .profileRead copy part => [copy, part]
  | .traceConfig streaming base => [streaming, base]
  | .statusRead => []
  | .readNow => []
  | .restart => []
  | .tare => []
  | .shuntCheck => []
  | .positionZero => []
  | .driveOn => []
  | .driveOff => []
  | .tripClear => []
  | .monitorTest => []
  | .stop => []
  | .profileCommit => []
  | .testStart => []
  | .testHold => []
  | .testResume => []
  | .testAbort => []
  | .resultRead => []

/-- The frame of a request with its tag. -/
def Request.frame (r : Request) (tag : Byte) : Frame := ⟨r.kind, tag, r.payload⟩

/-! ### The host's table words -/

/-- The command a word spells by the table's bits. Every row of spec/opcode_table.json has an empty "fields" and no
"fixed", so no row gives bits and no word spells a command. -/
def decodeTableWord (_nbits _w : Nat) : Option Instr := none

end Sys2Proof
end

