-- ==== Sys2Proof/Machine/State.lean ====
section
/-! DEFINITION. The state of the part, block by block in the order of section 1.3, the queue of waiting commands, and the
state after power-on reset. Quantities are exact integers in the units of section 1.4; counters that wrap are words. -/

namespace Sys2Proof.Machine

/-! ### Names and modes -/

/-- The states of the drive enable chain (R109). -/
inductive ChainState where
  | opened | closed
  deriving DecidableEq, Repr

/-- The trip causes (section 6.4). -/
inductive TripCause where
  | estop | guard | limitUp | limitDown | overload | tracking | encoder | driveFault | grip | halt
  deriving DecidableEq, Repr

/-- Why a test holds (section 8.1). -/
inductive HoldCause where
  | request | soft
  deriving DecidableEq, Repr

/-- How a test ended (section 8.1). -/
inductive EndReason where
  | lastStep | break | abortRequest | trip | halt
  deriving DecidableEq, Repr

/-- The test state, with the hold cause in HOLDING and the end reason in ENDED (section 8.1: each is present there only). -/
inductive TestState where
  | idle
  | running
  | holding (cause : HoldCause)
  | returning
  | ended (reason : EndReason)
  deriving DecidableEq, Repr

/-- The two load ranges (chapter Load Channel). -/
inductive LoadRange where
  | fine | wide
  deriving DecidableEq, Repr

/-- How the load range is chosen (R9). -/
inductive RangeMode where
  | auto | fine | wide
  deriving DecidableEq, Repr

/-- The strain sources (section 3.1). -/
inductive StrainSource where
  | none | extAvg | extA | extB | xhead
  deriving DecidableEq, Repr

/-- The strain plan of a profile (section 7.2). -/
inductive StrainPlan where
  | ext | xhead
  deriving DecidableEq, Repr

/-- Why an arm was excluded (section 2.3). -/
inductive ExclusionCause where
  | slip | overrange | seatLost
  deriving DecidableEq, Repr

/-- Why an arm is in FAULT (section 2.3). -/
inductive FaultCause where
  | seatTimeout | releaseTimeout
  deriving DecidableEq, Repr

/-- The arm states of section 2.3. -/
inductive ArmState where
  | opened
  | seating
  | seated
  | zeroing
  | zeroed
  | excluded (cause : ExclusionCause)
  | releasing
  | fault (cause : FaultCause)
  deriving DecidableEq, Repr

/-- The servo modes of section 4.3. -/
inductive ServoMode where
  | disabled | still | jog | move | step | return
  deriving DecidableEq, Repr

/-- The control classes of section 4.6. -/
inductive ControlClass where
  | position | strain | stress
  deriving DecidableEq, Repr

/-- The step modes of R129. -/
inductive StepMode where
  | posRate | strainRate | stressRate | hold
  deriving DecidableEq, Repr

/-! ### Events (section 5.8, R108) -/

/-- The causes of a change of the strain source (R62). -/
inductive SourceCause where
  | set | testEnd | start | fallback | handover | forced
  deriving DecidableEq, Repr

/-- When a profile was applied (R108). -/
inductive AppliedAt where
  | now | boundary | testEnd
  deriving DecidableEq, Repr

/-- The outcomes of a shunt check (R21, R22). -/
inductive ShuntOutcome where
  | pass | fail | abandoned
  deriving DecidableEq, Repr

/-- How a jog ended (R108). -/
inductive JogStop where
  | request | timeout | limit | chain
  deriving DecidableEq, Repr

/-- The two yield figures (R181). -/
inductive YieldFigure where
  | reh | rp
  deriving DecidableEq, Repr

/-- An event with the qualifier, state and value that R108 gives its code. -/
inductive Event where
  | startUp (byRestart : Bool)
  | input (i : Input) (asserted : Bool)
  | trip (cause : TripCause)
  | tripCleared
  | chain (state : ChainState)
  | test (state : TestState)
  | step (index : Nat)
  | breakFound (step : Nat) (fracture : Word)
  | yield (figure : YieldFigure) (value : Int)
  | resultReady (reason : EndReason) (final : Bool)
  | profileApplied (when : AppliedAt)
  | arm (arm : Arm) (state : ArmState)
  | source (source : StrainSource) (cause : SourceCause)
  | range (range : LoadRange)
  | tareDone (ok : Bool) (tare : Int)
  | shuntDone (outcome : ShuntOutcome) (range : LoadRange) (deviation : Option Int)
  | monitorDone (pass : Bool)
  | moveDone (arrived : Bool)
  | jogStop (how : JogStop)
  | softLimit (upper : Bool)
  | decim (factor : Nat)
  deriving DecidableEq, Repr

/-- An entry of the event queue: an event and the part time at which it was put (section 5.8). -/
structure Entry where
  event : Event
  time : Word
  deriving DecidableEq, Repr

/-- EVQ: the entries, oldest first, and the overflow mark (section 5.8). -/
structure Evq where
  entries : List Entry
  overflow : Bool
  deriving DecidableEq, Repr

/-! ### DIO (chapter Discrete Inputs, Outputs and the Event Queue) -/

/-- A moment: part time, and the microseconds since its last tick (section 5.1: sub-millisecond resolution). -/
structure Instant where
  ms : Word
  us : Fin 1000
  deriving DecidableEq, Repr

/-- What DIO keeps for one input (section 5.1), and the level on its pin, which R96 and R100 read. -/
structure InputRec where
  inverted : Bool
  /-- The debounce time in force, in ms (R97). -/
  debounce : Nat
  /-- Route QUEUE (true) or STATUS (false). -/
  queued : Bool
  /-- The debounced raw level, true for high. -/
  level : Bool
  pendingSince : Option Instant
  /-- The raw level on the pin, true for high. -/
  raw : Bool
  deriving DecidableEq, Repr

/-- One record per input of section 5.1. -/
structure Inputs where
  estop : InputRec
  guard : InputRec
  limitUp : InputRec
  limitDown : InputRec
  gripUpper : InputRec
  gripLower : InputRec
  extASeat : InputRec
  extBSeat : InputRec
  driveReady : InputRec
  aux : InputRec
  deriving DecidableEq, Repr

/-- DIO: the inputs, the part time counter (R102), and its measure of the time within a millisecond. -/
structure Dio where
  inputs : Inputs
  partTime : Word
  /-- Microseconds since the last tick, as the last arrival that carries them gave them (notes/assumptions/5.md). -/
  subMs : Fin 1000
  /-- The model's own: how many free times have been read (`Config.timeOfConfig`, notes/assumptions/5.md). -/
  configs : Nat
  deriving DecidableEq, Repr

/-! ### LDC (chapter Load Channel, section 1.1) -/

/-- A point of a calibration table: a raw code and the load in dN it means (R3). -/
structure CalPoint where
  code : Int
  load : Int
  deriving DecidableEq, Repr

/-- The shunt parameters of a range (R18). -/
structure ShuntParams where
  expected : Int
  tolerance : Int
  deriving DecidableEq, Repr

/-- A tare measurement in progress (R15, R16). -/
structure TareProgress where
  taken : Nat
  sum : Int
  deriving DecidableEq, Repr

/-- The phases of a shunt check (R20). -/
inductive ShuntPhase where
  | baseline | shuntSettle | shuntMeasure | releaseSettle
  deriving DecidableEq, Repr

/-- A shunt check in progress (section 1.1). -/
structure ShuntProgress where
  phase : ShuntPhase
  taken : Nat
  baseline : Int
  sum : Int
  deriving DecidableEq, Repr

/-- LDC (section 1.1). -/
structure Ldc where
  fineTable : List CalPoint
  wideTable : List CalPoint
  mode : RangeMode
  range : LoadRange
  settle : Nat
  down : Nat
  tare : Int
  tareProgress : Option TareProgress
  fineShunt : ShuntParams
  wideShunt : ShuntParams
  shunt : Option ShuntProgress
  /-- The SHUNT_EN output. -/
  shuntEn : Bool
  lastGood : Option Int
  deriving DecidableEq, Repr

/-! ### XTC (chapter Extensometer Arms, section 2.1) -/

/-- The modulation cycle of a holding solenoid: whether the output is in its on-time, and the on-time and off-time in µs that
were in force at the entry to HOLD (R101). -/
structure HoldCycle where
  high : Bool
  onTime : Nat
  offTime : Nat
  deriving DecidableEq, Repr

/-- A solenoid level (R32); the pull-in end is present only at PULL_IN (section 2.1). -/
inductive Solenoid where
  | off
  | pullIn (ends : Word)
  | hold (cycle : HoldCycle)
  deriving DecidableEq, Repr

/-- A zero capture in progress (section 2.1). -/
structure ZeroCapture where
  taken : Nat
  sum : Int
  deriving DecidableEq, Repr

/-- The record of one arm (section 2.1). -/
structure ArmRec where
  state : ArmState
  enabled : Bool
  scale : Option Int
  span : Option Int
  slipThreshold : Option Int
  lastRaw : Option Int
  zeroCode : Option Int
  capture : Option ZeroCapture
  lastElong : Option Int
  slip : Bool
  overrange : Bool
  solenoid : Solenoid
  /-- The part time at which the seat timeout or release timeout expires (R102). -/
  timer : Option Word
  deriving DecidableEq, Repr

/-- XTC: the two arms and the shared fields of section 2.1 (ms, µs, µs, ms, ms). -/
structure Xtc where
  armA : ArmRec
  armB : ArmRec
  pullInTime : Nat
  holdOnTime : Nat
  holdOffTime : Nat
  seatTimeout : Nat
  releaseTimeout : Nat
  deriving DecidableEq, Repr

/-! ### SMP (chapter Samples, Strain and Stress, section 3.1) -/

/-- A measurement sample (R51). GAP belongs to trace records and is always clear on a sample (R52). -/
structure Sample where
  index : Word
  position : Int
  load : Option Int
  stress : Option Int
  strain : Option Int
  source : StrainSource
  step : Option Nat
  held : Bool
  clamped : Bool
  handover : Bool
  forced : Bool
  deriving DecidableEq, Repr

/-- The basis of a sample (section 3.1). -/
structure Basis where
  elongA : Option Int
  elongB : Option Int
  corrected : Int
  unclamped : Option Int
  deriving DecidableEq, Repr

/-- The last sample with its basis. -/
structure LastSample where
  sample : Sample
  basis : Basis
  deriving DecidableEq, Repr

/-- SMP (section 3.1). -/
structure Smp where
  index : Word
  source : StrainSource
  sourceOffset : Int
  zeroRef : Int
  last : Option LastSample
  handoverMark : Bool
  forcedMark : Bool
  /-- The model's own: samples composed since the last reset, which tells whether a sample was composed after an arrival
  (R58, R78; notes/assumptions/6.md). -/
  composed : Nat
  /-- The model's own: the value of `composed` at the last TEST_START. -/
  composedAtStart : Nat
  deriving DecidableEq, Repr

/-! ### XHS (chapter Crosshead Servo, section 4.1) -/

/-- The frame configuration (R92). -/
structure FrameConfig where
  maxSpeed : Int
  guardSpeed : Int
  fullScale : Int
  softLower : Int
  softUpper : Int
  trackTolerance : Int
  tau : Int
  kpPos : Int
  kStrain : Int
  kStress : Int
  compliance : Int
  frameOverload : Int
  deriving DecidableEq, Repr

/-- The rate demand accumulator: a value, or waiting for the first sample composed after the arrival at which `composed`
samples had been composed (R78). -/
inductive RateDemand where
  | value (acc : Int)
  | waiting (composed : Nat)
  deriving DecidableEq, Repr

/-- A rate transition (R77), times in µs. -/
structure RateTransition where
  start : Int
  target : Int
  time : Int
  elapsed : Int
  deriving DecidableEq, Repr

/-- The target of a move or return (R86, R87). -/
structure MoveTarget where
  position : Int
  speed : Int
  deriving DecidableEq, Repr

/-- A monitor test in progress (R90): expiries taken (0 to 15), the consecutive count, whether it has reached 3 in the
present half, and the first-half outcome. The half is 1 for fewer than 8 expiries taken. -/
structure MonitorTest where
  taken : Nat
  count : Nat
  reached : Bool
  firstHalf : Option Bool
  deriving DecidableEq, Repr

/-- XHS (section 4.1). -/
structure Xhs where
  count : Word
  zeroCount : Word
  /-- The last sample of the quadrature channels (R66, R67). -/
  chanA : Bool
  chanB : Bool
  mode : ServoMode
  controlClass : ControlClass
  /-- Position demand × 12,000. -/
  posAcc : Int
  rateAcc : RateDemand
  effRate : Int
  transition : Option RateTransition
  /-- The velocity command of the last expiry, µm/min. -/
  velocity : Int
  speedWord : Int
  modelVelocity : Int
  /-- Model position × 12,000. -/
  modelAcc : Int
  trackCount : Nat
  monitorProven : Bool
  monitor : Option MonitorTest
  escapeUp : Bool
  escapeDown : Bool
  jogRenewal : Option Word
  target : Option MoveTarget
  config : FrameConfig
  deriving DecidableEq, Repr

/-! ### DEC (chapter Drive Enable Chain, section 6.1) -/

/-- DEC. The trip set is a list without repeats, in the order latched; the order has no meaning of its own. -/
structure Dec where
  chain : ChainState
  trips : List TripCause
  firstOut : Option TripCause
  guardMode : Bool
  overloadPresent : Bool
  deriving DecidableEq, Repr

/-! ### TSQ (chapters Test Profiles and Running a Test) -/

/-- The staged spec part: the fields of the last PROFILE_SPEC_WRITE, as written; a field with a default may be absent (R127). -/
structure StagedSpec where
  s0 : Word
  l0 : Word
  lc : Word
  eNominal : Word
  specimen : List Byte
  cast : List Byte
  plan : Byte
  fitLower : Word
  fitUpper : Word
  offset : Option Half
  yieldDrop : Option Half
  transient : Option Half
  yieldLimit : Option Word
  yieldEnd : Option Word
  armLoad : Word
  breakStep : Option Byte
  breakFloor : Option Byte
  testOverload : Option Word
  returnAfter : Byte
  returnSpeed : Word
  traceBase : Byte
  stepCount : Byte
  deriving DecidableEq, Repr

/-- A staged step slot: the record as last written and the written mark (R127). -/
structure StagedStep where
  record : StepRecord
  written : Bool
  deriving DecidableEq, Repr

/-- The staged copy: the spec part, absent when not yet written, and the 12 step slots (R127). -/
structure StagedCopy where
  spec : Option StagedSpec
  slots : Vector StagedStep 12
  deriving DecidableEq, Repr

/-- An end condition: the quantity code and the threshold as sent (R130). -/
structure EndCondition where
  quantity : Byte
  threshold : Word
  deriving DecidableEq, Repr

/-- A step of an active or pending copy (section 7.3). Conditions beyond the count are held but not read (R130). -/
structure ProfileStep where
  mode : StepMode
  rate : Int
  /-- Transition time in ms. -/
  transition : Int
  count : Nat
  cond1 : EndCondition
  cond2 : EndCondition
  release : Bool
  deriving DecidableEq, Repr

/-- The spec fields 1 to 21 of an active or pending copy, with every default resolved (R127, R128). -/
structure ProfileSpec where
  s0 : Int
  l0 : Int
  lc : Int
  eNominal : Int
  specimen : List Byte
  cast : List Byte
  plan : StrainPlan
  fitLower : Int
  fitUpper : Int
  offset : Int
  yieldDrop : Int
  transient : Int
  yieldLimit : Int
  yieldEnd : Int
  armLoad : Int
  breakStep : Int
  breakFloor : Int
  testOverload : Int
  returnAfter : Bool
  returnSpeed : Int
  traceBase : Int
  deriving DecidableEq, Repr

/-- An active or pending copy: its spec fields and exactly step-count steps (R127). -/
structure Profile where
  spec : ProfileSpec
  steps : List ProfileStep
  deriving DecidableEq, Repr

/-- The previous loaded sample of the break detector (section 8.1). -/
structure LoadedSample where
  index : Word
  load : Int
  deriving DecidableEq, Repr

/-- TSQ (sections 7.1 and 8.1). -/
structure Tsq where
  state : TestState
  step : Option Nat
  /-- Step time in ms; it stops at 4,294,967,295 (R149). -/
  stepTime : Nat
  startPosition : Int
  prevLoaded : Option LoadedSample
  breakFound : Bool
  fracture : Option Word
  staged : StagedCopy
  active : Option Profile
  pendingCopy : Option Profile
  deriving DecidableEq, Repr

/-! ### RES (chapter Result Computation, section 9.1) -/

/-- The progress of the proof-stress search. -/
inductive RpSearch where
  | waiting | searching | done | window | lapsed
  deriving DecidableEq, Repr

/-- The progress of the upper and lower yield search. -/
inductive YieldSearch where
  | upper | lower | complete | lapsed
  deriving DecidableEq, Repr

/-- The basis of E (R173). -/
inductive EBasis where
  | fit | nominal | rejected
  deriving DecidableEq, Repr

/-- The fit accumulators (section 9.1). -/
structure FitSums where
  n : Nat
  x : Int
  y : Int
  xx : Int
  xy : Int
  deriving DecidableEq, Repr

/-- The previous search sample (section 9.1). -/
structure SearchSample where
  index : Word
  stress : Int
  strain : Int
  plastic : Int
  deriving DecidableEq, Repr

/-- A point of the curve: index, stress and strain (the ReH candidate, section 9.1). -/
structure CurvePoint where
  index : Word
  stress : Int
  strain : Int
  deriving DecidableEq, Repr

/-- The Fmax sample (section 9.1). -/
structure FmaxSample where
  index : Word
  load : Int
  stress : Int
  strain : Option Int
  deriving DecidableEq, Repr

/-- The last taken sample (section 9.1). -/
structure TakenSample where
  index : Word
  stress : Int
  strain : Option Int
  deriving DecidableEq, Repr

/-- E with its basis and n (R173). -/
structure EFigure where
  e : Int
  basis : EBasis
  n : Nat
  deriving DecidableEq, Repr

/-- Rp with its strain, index and source (R175). -/
structure RpFigure where
  rp : Int
  strain : Int
  index : Word
  source : StrainSource
  deriving DecidableEq, Repr

/-- Fmax with its index (R170). -/
structure FmaxFigure where
  load : Int
  index : Word
  deriving DecidableEq, Repr

/-- The result record (R186). ReH is held as stress, strain and index. The mark is true for final, false for partial. -/
structure ResultRecord where
  specimen : Option (List Byte)
  cast : Option (List Byte)
  e : Option EFigure
  rp : Option RpFigure
  rpWindow : Bool
  reh : Option CurvePoint
  rel : Option Int
  ae : Option Int
  fmax : Option FmaxFigure
  rm : Option Int
  ag : Option Int
  a : Option Int
  fracture : Option Word
  reason : Option EndReason
  final : Option Bool
  deriving DecidableEq, Repr

/-- Every item of section 9.1 but the retained state. -/
structure ResItems where
  fitOpen : Bool
  sums : FitSums
  rpSearch : RpSearch
  prevSearch : Option SearchSample
  yieldSearch : YieldSearch
  candidate : Option CurvePoint
  declared : Option Word
  fmaxSample : Option FmaxSample
  lastTaken : Option TakenSample
  firstYield : Option Word
  record : ResultRecord
  deriving DecidableEq, Repr

/-- RES: its items, and the retained state, which is a copy of them (R169) or empty (R188). -/
structure Res where
  items : ResItems
  retained : Option ResItems
  deriving DecidableEq, Repr

/-! ### TRB (chapter Trace Records, section 10.1) -/

/-- A trace record (R191). -/
structure TraceRecord where
  sample : Sample
  gap : Bool
  factor : Nat
  deriving DecidableEq, Repr

/-- Whether a record is in flight, and if so whether it is still the oldest entry of the buffer or the buffer was emptied
while its frame was being sent (R195). -/
inductive InFlight where
  | no
  | oldest
  | discarded
  deriving DecidableEq, Repr

/-- TRB (section 10.1). -/
structure Trb where
  streaming : Bool
  base : Nat
  factor : Nat
  buffer : List TraceRecord
  inFlight : InFlight
  gap : Bool
  lastIndex : Option Word
  deriving DecidableEq, Repr

/-! ### LNK (chapter The Message Link, section 11.1) -/

/-- The receiver: its position, with the bytes of the partial frame stored so far. The gap timer runs in every position
other than HUNT (R205). -/
inductive Receiver where
  | hunt
  | length
  | kind (len : Byte)
  | tag (len kind : Byte)
  | payload (len kind tag : Byte) (got : List Byte)
  | crcHigh (len kind tag : Byte) (got : List Byte)
  | crcLow (len kind tag : Byte) (got : List Byte) (high : Byte)
  deriving DecidableEq, Repr

/-- The transmitter; during a trace frame, with the record it carries (R213, R214). -/
inductive Transmitter where
  | idle
  | reply
  | trace (record : TraceRecord)
  deriving DecidableEq, Repr

/-- LNK (section 11.1). The line rate is held as its rate code (R202). -/
structure Lnk where
  rateCode : BitVec 2
  receiver : Receiver
  inBreak : Bool
  receiveSlot : Option Frame
  replySlot : Option Frame
  transmitter : Transmitter
  deriving DecidableEq, Repr

/-! ### The part -/

/-- The state of the part and the commands that are waiting, first in, first out. -/
structure State where
  dio : Dio
  evq : Evq
  ldc : Ldc
  xtc : Xtc
  smp : Smp
  xhs : Xhs
  dec : Dec
  tsq : Tsq
  res : Res
  trb : Trb
  lnk : Lnk
  pending : List Instr
  deriving DecidableEq, Repr

/-- Reasons for the part to stop. The spec gives every command of the table an effect in every state (a request that does
not act is answered with a refusal, which is a reply), so no step raises a fault; the type is empty. -/
inductive Fault where
  deriving DecidableEq, Repr

/-- Reasons for the model to have no meaning for a command. -/
inductive Refusal where
  /-- Raised only by an arm of `exec` for a command without a meaning yet; no arm does. Safe: the model stops. -/
  | notModelled (mnemonic : String)
  deriving DecidableEq, Repr

/-! ### Power-on values -/

/-- An input after power-on reset with its pin low (R100): polarity NORMAL, route STATUS, the debounced level the pin's. -/
def InputRec.low (debounce : Nat) : InputRec :=
  { inverted := false, debounce, queued := false, level := false, pendingSince := none, raw := false }

/-- An arm after power-on reset (R47). -/
def ArmRec.powerOn : ArmRec :=
  { state := .opened, enabled := false, scale := none, span := none, slipThreshold := none, lastRaw := none,
    zeroCode := none, capture := none, lastElong := none, slip := false, overrange := false, solenoid := .off, timer := none }

/-- A staged step slot after power-on reset: written mark clear and every field 0 (R142). -/
def StagedStep.clear : StagedStep :=
  { record := { mode := 0, rate := 0, transition := 0, count := 0, quantity1 := 0, threshold1 := 0, quantity2 := 0,
                threshold2 := 0, release := 0 },
    written := false }

/-- A result record with every field absent (R189). -/
def ResultRecord.empty : ResultRecord :=
  { specimen := none, cast := none, e := none, rp := none, rpWindow := false, reh := none, rel := none, ae := none,
    fmax := none, rm := none, ag := none, a := none, fracture := none, reason := none, final := none }

/-- RES after a reset (R189). -/
def Res.powerOn : Res :=
  { items :=
      { fitOpen := true, sums := { n := 0, x := 0, y := 0, xx := 0, xy := 0 }, rpSearch := .waiting, prevSearch := none,
        yieldSearch := .upper, candidate := none, declared := none, fmaxSample := none, lastTaken := none,
        firstYield := none, record := .empty },
    retained := none }

/-- The frame configuration after power-on reset (R92). -/
def FrameConfig.powerOn : FrameConfig :=
  { maxSpeed := 100000, guardSpeed := 6000, fullScale := 600000, softLower := -12000000, softUpper := 12000000,
    trackTolerance := 20000, tau := 20000, kpPos := 600, kStrain := 500, kStress := 200, compliance := 0,
    frameOverload := 6300000 }

/-- LDC after power-on reset (R24). -/
def Ldc.powerOn : Ldc :=
  { fineTable := [], wideTable := [], mode := .auto, range := .wide, settle := 2, down := 0, tare := 0,
    tareProgress := none, fineShunt := ⟨0, 0⟩, wideShunt := ⟨0, 0⟩, shunt := none, shuntEn := false, lastGood := none }

/-- XTC after power-on reset (R47, section 2.1). -/
def Xtc.powerOn : Xtc :=
  { armA := .powerOn, armB := .powerOn, pullInTime := 200, holdOnTime := 300, holdOffTime := 700, seatTimeout := 600,
    releaseTimeout := 300 }

/-- SMP after either reset (R63, R64). -/
def Smp.powerOn : Smp :=
  { index := 0, source := .none, sourceOffset := 0, zeroRef := 0, last := none, handoverMark := false, forcedMark := false,
    composed := 0, composedAtStart := 0 }

/-- XHS after power-on reset, with the first sample of the encoder channels (R93). -/
def Xhs.powerOn (chanA chanB : Bool) : Xhs :=
  { count := 0, zeroCount := 0, chanA, chanB, mode := .disabled, controlClass := .position, posAcc := 0,
    rateAcc := .value 0, effRate := 0, transition := none, velocity := 0, speedWord := 0, modelVelocity := 0, modelAcc := 0,
    trackCount := 0, monitorProven := false, monitor := none, escapeUp := false, escapeDown := false, jogRenewal := none,
    target := none, config := .powerOn }

/-- DEC after either reset, before the evaluation of the starting levels (R125). -/
def Dec.powerOn : Dec :=
  { chain := .opened, trips := [], firstOut := none, guardMode := false, overloadPresent := false }

/-- TSQ after power-on reset (R142, R165). -/
def Tsq.powerOn : Tsq :=
  { state := .idle, step := none, stepTime := 0, startPosition := 0, prevLoaded := none, breakFound := false,
    fracture := none, staged := { spec := none, slots := Vector.replicate 12 .clear }, active := none, pendingCopy := none }

/-- TRB after either reset (R200). -/
def Trb.powerOn : Trb :=
  { streaming := false, base := 1, factor := 1, buffer := [], inFlight := .no, gap := false, lastIndex := none }

/-- LNK after power-on reset with the rate code its straps give (R216). -/
def Lnk.powerOn (rateCode : BitVec 2) : Lnk :=
  { rateCode, receiver := .hunt, inBreak := false, receiveSlot := none, replySlot := none, transmitter := .idle }

/-- The part right after power-on reset, with every pin low: both straps (rate code 0), the ten inputs and the two encoder
channels. The spec gives no pin levels; low is the model's choice (DESIGN CHOICE, notes/assumptions/2.md), and POWER_ON_RESET
takes them as operands. With ESTOP low the evaluation of R125 latches ESTOP, after START_UP (R107). -/
def State.reset : State :=
  { dio :=
      { inputs :=
          { estop := .low 1, guard := .low 5, limitUp := .low 5, limitDown := .low 5, gripUpper := .low 10,
            gripLower := .low 10, extASeat := .low 10, extBSeat := .low 10, driveReady := .low 10, aux := .low 10 },
        partTime := 0, subMs := 0, configs := 0 },
    evq := { entries := [⟨.startUp false, 0⟩, ⟨.trip .estop, 0⟩], overflow := false },
    ldc := .powerOn, xtc := .powerOn, smp := .powerOn, xhs := .powerOn false false,
    dec := { Dec.powerOn with trips := [.estop], firstOut := some .estop },
    tsq := .powerOn, res := .powerOn, trb := .powerOn, lnk := .powerOn 0, pending := [] }

end Sys2Proof.Machine
end

