-- ==== Sys2Proof/Machine/Arith.lean ====
section
/-! DEFINITION. The arithmetic of R1: exact intermediates, one division at the end, rounding half away from zero, the clamp
after the rounding; and the truncating division of the servo's accumulators (R65). -/

namespace Sys2Proof.Machine

/-- Division rounding half away from zero (R1). -/
def roundDiv (n d : Int) : Int :=
  let q : Nat := (2 * n.natAbs + d.natAbs) / (2 * d.natAbs)
  if (decide (n < 0)) = (decide (d < 0)) then (q : Int) else -(q : Int)

/-- Division truncating toward zero (R65). -/
def truncDiv (n d : Int) : Int := Int.tdiv n d

/-- A clamp to lo .. hi (R1: applied after the rounding). -/
def clampTo (lo hi x : Int) : Int := if x < lo then lo else if hi < x then hi else x

/-- Whether a value lies in lo .. hi. -/
def inRange (lo hi x : Int) : Bool := lo ≤ x && x ≤ hi

/-- The greatest load, 8,000,000 dN (section 1.4). -/
def loadLimit : Int := 8000000

/-- The greatest stress and strain, 2,000,000 c and ppm (section 1.4). -/
def stressLimit : Int := 2000000

/-- A load clamped to the range of its unit (section 1.4). -/
def clampLoad (x : Int) : Int := clampTo (-loadLimit) loadLimit x

/-- A stress or strain clamped to the range of its unit (section 1.4). -/
def clampStress (x : Int) : Int := clampTo (-stressLimit) stressLimit x

/-- The distance between two numbers. -/
def absDiff (x y : Int) : Int := ((x - y).natAbs : Int)

/-- The magnitude of a number. -/
def mag (x : Int) : Int := (x.natAbs : Int)

/-- Both extreme 24-bit codes mean that the converter is saturated (chapters Load Channel and Extensometer Arms). -/
def saturatedCode (c : Int) : Bool := c == -8388608 || c == 8388607

end Sys2Proof.Machine
end

