-- ==== Sys2Proof/Machine/Ops.lean ====
section
/-! DEFINITION. Shared operations over the state: putting an event, reading levels, positions and modes, and the access to
the records of an input or an arm. -/

namespace Sys2Proof.Machine

/-! ### The event queue (R103, R105) -/

/-- The event queue holds at most 32 entries (R103). -/
def eventCapacity : Nat := 32

/-- Putting an event: stamped with part time and appended, or, when the queue is full, discarded with the overflow mark set
(R103). -/
def State.put (e : Event) (s : State) : State :=
  if s.evq.entries.length < eventCapacity then
    { s with evq := { s.evq with entries := s.evq.entries ++ [⟨e, s.dio.partTime⟩] } }
  else { s with evq := { s.evq with overflow := true } }

/-- ATTN is high while the queue holds one or more entries (R105). -/
def State.attn (s : State) : Bool := !s.evq.entries.isEmpty

/-! ### Test states (section 1.8, R144) -/

/-- "In a test state": RUNNING, HOLDING or RETURNING (section 1.8). -/
def TestState.testing : TestState → Bool
  | .idle => false
  | .running => true
  | .holding _ => true
  | .returning => true
  | .ended _ => false

/-- RUNNING or HOLDING: the states in which RES and the break detector take samples (section 8.2). -/
def TestState.sampling : TestState → Bool
  | .idle => false
  | .running => true
  | .holding _ => true
  | .returning => false
  | .ended _ => false

/-- Whether the part is in a test state. -/
def State.testing (s : State) : Bool := s.tsq.state.testing

/-- A change of the test state, with its TEST event (R144). -/
def State.enterTest (t : TestState) (s : State) : State :=
  State.put (.test t) { s with tsq := { s.tsq with state := t } }

/-! ### Inputs (R95) -/

/-- The record of an input. -/
def Inputs.get (v : Inputs) : Input → InputRec
  | .estop => v.estop
  | .guard => v.guard
  | .limitUp => v.limitUp
  | .limitDown => v.limitDown
  | .gripUpper => v.gripUpper
  | .gripLower => v.gripLower
  | .extASeat => v.extASeat
  | .extBSeat => v.extBSeat
  | .driveReady => v.driveReady
  | .aux => v.aux

/-- The records with one replaced. -/
def Inputs.put (v : Inputs) (i : Input) (r : InputRec) : Inputs :=
  match i with
  | .estop => { v with estop := r }
  | .guard => { v with guard := r }
  | .limitUp => { v with limitUp := r }
  | .limitDown => { v with limitDown := r }
  | .gripUpper => { v with gripUpper := r }
  | .gripLower => { v with gripLower := r }
  | .extASeat => { v with extASeat := r }
  | .extBSeat => { v with extBSeat := r }
  | .driveReady => { v with driveReady := r }
  | .aux => { v with aux := r }

/-- The index of an input (section 5.1). -/
def inputIndex : Input → Nat
  | .estop => 0
  | .guard => 1
  | .limitUp => 2
  | .limitDown => 3
  | .gripUpper => 4
  | .gripLower => 5
  | .extASeat => 6
  | .extBSeat => 7
  | .driveReady => 8
  | .aux => 9

/-- All ten inputs in index order. -/
def allInputs : List Input :=
  [.estop, .guard, .limitUp, .limitDown, .gripUpper, .gripLower, .extASeat, .extBSeat, .driveReady, .aux]

/-- The logical level of an input: its debounced raw level read through its polarity; true is asserted (R95). -/
def InputRec.asserted (r : InputRec) : Bool := r.level != r.inverted

/-- The logical level of an input of the part (R95). -/
def State.asserted (i : Input) (s : State) : Bool := (s.dio.inputs.get i).asserted

/-- The record of an input replaced. -/
def State.setInput (i : Input) (r : InputRec) (s : State) : State :=
  { s with dio := { s.dio with inputs := s.dio.inputs.put i r } }

/-- Whether both grips are closed (R145). -/
def State.gripsClosed (s : State) : Bool := s.asserted .gripUpper && s.asserted .gripLower

/-! ### Arms (section 2.1) -/

/-- The record of an arm. -/
def State.arm (which : Arm) (s : State) : ArmRec :=
  match which with
  | .a => s.xtc.armA
  | .b => s.xtc.armB

/-- The record of an arm replaced. -/
def State.setArm (which : Arm) (r : ArmRec) (s : State) : State :=
  match which with
  | .a => { s with xtc := { s.xtc with armA := r } }
  | .b => { s with xtc := { s.xtc with armB := r } }

/-- The other arm. -/
def otherArm : Arm → Arm
  | .a => .b
  | .b => .a

/-- The seat input of an arm (section 5.1). -/
def seatInput : Arm → Input
  | .a => .extASeat
  | .b => .extBSeat

/-- Whether an arm's seat input reads closed (chapter Extensometer Arms). -/
def State.seatClosed (which : Arm) (s : State) : Bool := s.asserted (seatInput which)

/-- A change of an arm's state puts ARM with the arm and its new state (R30). -/
def State.changeArm (which : Arm) (r : ArmRec) (s : State) : State :=
  State.put (.arm which r.state) (s.setArm which r)

/-- A part time a number of milliseconds from now, modulo 2^32 (R102). -/
def State.timeAfter (ms : Nat) (s : State) : Word := s.dio.partTime + BitVec.ofNat 32 ms

/-! ### Position (R68) -/

/-- The position of the crosshead in units: (count - zero count) modulo 2^32 as a signed value, times 5, modulo 2^32 as a
signed value. -/
def Xhs.position (x : Xhs) : Int := ((x.count - x.zeroCount) * 5#32).toInt

/-- The present position (R68). -/
def State.position (s : State) : Int := s.xhs.position

/-- Accumulator units per unit of position (R65). -/
def positionScale : Int := 12000

/-- Accumulator units per ppm or c (R65). -/
def rateScale : Int := 2000

/-! ### The drive port and the outputs (R101, R109) -/

/-- DRIVE_EN is active in CLOSED and inactive in OPEN (R109). -/
def State.driveEn (s : State) : Bool := s.dec.chain == .closed

/-- The level of a solenoid output as DIO drives it (R101). -/
def Solenoid.output : Solenoid → Bool
  | .off => false
  | .pullIn _ => true
  | .hold cycle => cycle.high

/-- How long the present phase of a hold cycle lasts, in µs (R101). -/
def HoldCycle.phaseTime (c : HoldCycle) : Nat := if c.high then c.onTime else c.offTime

/-! ### The load channel's tables (section 1.1) -/

/-- The calibration table of a range. -/
def Ldc.table (l : Ldc) : LoadRange → List CalPoint
  | .fine => l.fineTable
  | .wide => l.wideTable

/-- The shunt parameters of a range. -/
def Ldc.shuntParams (l : Ldc) : LoadRange → ShuntParams
  | .fine => l.fineShunt
  | .wide => l.wideShunt

/-- A range is INVALID when its table is empty (section 1.1). -/
def Ldc.valid (l : Ldc) (r : LoadRange) : Bool := !(l.table r).isEmpty

/-- Whether the current range is valid. -/
def State.rangeValid (s : State) : Bool := s.ldc.valid s.ldc.range

/-- A tare or a shunt check is in progress (R13, R15, R19). -/
def Ldc.busy (l : Ldc) : Bool := l.tareProgress.isSome || l.shunt.isSome

end Sys2Proof.Machine
end

