-- ==== Sys2Proof/Machine/Source.lean ====
section
/-! DEFINITION. The averaging set (R42), the raw strain of a source (R55) and the strain source with its changes (R56 to
R62), the part of SMP that answers the reports of XTC. -/

namespace Sys2Proof.Machine

/-- Whether an arm is in the averaging set: it is ZEROED (R42). -/
def ArmRec.inSet (r : ArmRec) : Bool := r.state == .zeroed

/-- The averaging set: whether arm A and whether arm B is in it. -/
def State.averagingSet (s : State) : Bool × Bool := (s.xtc.armA.inSet, s.xtc.armB.inSet)

/-- The source that an averaging set gives, NONE for the empty set (R42, R56). -/
def sourceOfSet : Bool × Bool → StrainSource
  | (true, true) => .extAvg
  | (true, false) => .extA
  | (false, true) => .extB
  | (false, false) => .none

/-- Whether a source is an extensometer source. -/
def StrainSource.isExt : StrainSource → Bool
  | .none => false
  | .extAvg => true
  | .extA => true
  | .extB => true
  | .xhead => false

/-- The averaged elongation of two arms, rounded (R42). -/
def averageElong (x y : Int) : Int := roundDiv (x + y) 2

/-- Strain of an elongation in 0.01 µm over a gauge length in µm (R55). -/
def elongStrain (x l0 : Int) : Int := roundDiv (x * 10000) l0

/-- The raw strain of a source from a sample's basis, the active profile and the crosshead zero reference (R55). -/
def rawStrain (active : Option Profile) (zeroRef : Int) (b : Basis) (source : StrainSource) : Option Int :=
  match active with
  | none => none
  | some p =>
    match source with
    | .none => none
    | .extAvg =>
      match b.elongA, b.elongB with
      | some x, some y => some (elongStrain (averageElong x y) p.spec.l0)
      | _, _ => none
    | .extA => b.elongA.map (elongStrain · p.spec.l0)
    | .extB => b.elongB.map (elongStrain · p.spec.l0)
    | .xhead => some (roundDiv ((b.corrected - zeroRef) * 100000) p.spec.lc)

/-- The raw strain of a source for the last sample (R58). -/
def State.lastRawStrain (source : StrainSource) (s : State) : Option Int :=
  s.smp.last.bind fun l => rawStrain s.tsq.active s.smp.zeroRef l.basis source

/-- Whether a sample has been composed since TEST_START (R58). -/
def Smp.sampledSinceStart (m : Smp) : Bool := m.composedAtStart < m.composed

/-- The source offset after a change to a new source within a test: joined on the last sample (R58). -/
def State.joinedOffset (new : StrainSource) (s : State) : Int :=
  if s.smp.sampledSinceStart then
    match s.smp.last.bind (fun l => l.sample.strain), s.lastRawStrain s.smp.source, s.lastRawStrain new with
    | some _, some old, some r => s.smp.sourceOffset + old - r
    | _, _, _ => s.smp.sourceOffset
  else s.smp.sourceOffset

/-- The source set with an offset, and SOURCE put when the source changes (R62). -/
def State.setSource (new : StrainSource) (sourceOffset : Int) (cause : SourceCause) (s : State) : State :=
  let t := { s with smp := { s.smp with source := new, sourceOffset := sourceOffset } }
  if s.smp.source = new then t else t.put (.source new cause)

/-- Outside a test the source follows the averaging set with offset 0 (R56). -/
def State.followSet (cause : SourceCause) (s : State) : State :=
  s.setSource (sourceOfSet s.averagingSet) 0 cause

/-- At a test end the source follows the set, the offset is 0 and the change marks are clear (R56). -/
def State.sourceAtTestEnd (s : State) : State :=
  let t := s.followSet .testEnd
  { t with smp := { t.smp with handoverMark := false, forcedMark := false } }

/-- A single-arm fallback, joined, without a change mark (R59). -/
def State.fallBack (new : StrainSource) (s : State) : State :=
  s.setSource new (s.joinedOffset new) .fallback

/-- A handover at a release start: the source becomes XHEAD, joined, and the HANDOVER mark is set (R60). -/
def State.handOver (s : State) : State :=
  let t := s.setSource .xhead (s.joinedOffset .xhead) .handover
  { t with smp := { t.smp with handoverMark := true } }

/-- What SMP does when a release start is reported, given the averaging set before it (R56, R60). -/
def State.sourceAtRelease (before : Bool × Bool) (s : State) : State :=
  if s.testing then
    if s.smp.source.isExt && decide (s.averagingSet ≠ before) then
      match s.averagingSet with
      | (false, false) => s.handOver
      | (true, false) => if s.smp.source = .extAvg then s.fallBack .extA else s
      | (false, true) => if s.smp.source = .extAvg then s.fallBack .extB else s
      | (true, true) => s
    else s
  else s.followSet .set

end Sys2Proof.Machine
end

