-- ==== Sys2Proof/Machine/Extensometer.lean ====
section
/-! DEFINITION. XTC: conversions and elongation, arm states, solenoids, seating, zeroing, exclusion and release (chapter
Extensometer Arms), with the forced handover of SMP (R61), which starts a release. -/

namespace Sys2Proof.Machine

/-! ### Release (R43 to R46) -/

/-- Whether a release start moves an arm in this state; an arm in FAULT moves for the request cause only (R43). -/
def ArmState.releasable (request : Bool) : ArmState → Bool
  | .opened => false
  | .seating => true
  | .seated => true
  | .zeroing => true
  | .zeroed => true
  | .excluded _ => true
  | .releasing => false
  | .fault _ => request

/-- An arm entering RELEASING: solenoid off, zero discarded; RELEASING with the release timer while its seat input reads
closed, OPEN at once otherwise (R45). -/
def State.enterReleasing (which : Arm) (s : State) : State :=
  let r := s.arm which
  let cleared :=
    { r with solenoid := .off, timer := none, capture := none, zeroCode := none, lastElong := none, slip := false,
             overrange := false }
  if s.seatClosed which then
    s.changeArm which { cleared with state := .releasing, timer := some (s.timeAfter s.xtc.releaseTimeout) }
  else s.changeArm which { cleared with state := .opened }

/-- The release of one arm, where the start applies to it (R43). -/
def State.releaseArm (applies request : Bool) (which : Arm) (s : State) : State :=
  if applies && (s.arm which).state.releasable request then s.enterReleasing which else s

/-- The arm changes of a release start, arm A before arm B (R30, R43). -/
def State.releaseArms (onA onB request : Bool) (s : State) : State :=
  (s.releaseArm onA request .a).releaseArm onB request .b

/-- A release start: the arms move and their events are put, then SMP is told (R43). -/
def State.releaseStart (onA onB request : Bool) (s : State) : State :=
  (s.releaseArms onA onB request).sourceAtRelease s.averagingSet

/-- A forced handover: the source becomes XHEAD, joined; both marks are set; SOURCE is put; a forced release starts on both
arms, whose report finds the source XHEAD and changes nothing (R61). -/
def State.forceHandover (s : State) : State :=
  let t := s.setSource .xhead (s.joinedOffset .xhead) .forced
  let u := { t with smp := { t.smp with handoverMark := true, forcedMark := true } }
  u.releaseArms true true false

/-- What SMP does when an exclusion is reported, the arm having left the averaging set or not (R56, R59, R61). -/
def State.sourceAtExclusion (before : Bool × Bool) (s : State) : State :=
  if s.testing then
    if s.smp.source.isExt && decide (s.averagingSet ≠ before) then
      match s.averagingSet with
      | (false, false) => s.forceHandover
      | (true, false) => if s.smp.source = .extAvg then s.fallBack .extA else s
      | (false, true) => if s.smp.source = .extAvg then s.fallBack .extB else s
      | (true, true) => s
    else s
  else s.followSet .set

/-- An arm state change that leaves no exclusion or release: outside a test the source follows the set (R30, R56). -/
def State.sourceAtArmChange (s : State) : State := if s.testing then s else s.followSet .set

/-- An arm goes to EXCLUDED with a cause; its solenoid, zero code and last elongation are kept, a capture in progress is
discarded (R29, R31, R40, R41). -/
def State.excludeArm (which : Arm) (cause : ExclusionCause) (s : State) : State :=
  let r := s.arm which
  (s.changeArm which { r with state := .excluded cause, capture := none }).sourceAtExclusion s.averagingSet

/-! ### Seating and the solenoids (R32 to R37) -/

/-- A solenoid entering HOLD: the cycle starts with its on-time, with the times in force at the entry (R32, R101). -/
def Xtc.newHold (x : Xtc) : Solenoid := .hold { high := true, onTime := x.holdOnTime, offTime := x.holdOffTime }

/-- A re-strike: the other solenoid at HOLD goes to PULL_IN with the pull-in end of the seating arm (R34). -/
def reStrike (ends : Word) (r : ArmRec) : ArmRec :=
  match r.solenoid with
  | .hold _ => { r with solenoid := .pullIn ends }
  | .off => r
  | .pullIn _ => r

/-- An arm entering SEATING: its solenoid starts PULL_IN, the other is re-struck from HOLD, and it becomes SEATING with its
seat timeout, or SEATED at once when its seat input reads closed (R33, R34, R36). -/
def State.enterSeating (which : Arm) (s : State) : State :=
  let ends := s.timeAfter s.xtc.pullInTime
  let t := s.setArm (otherArm which) (reStrike ends (s.arm (otherArm which)))
  let r := { t.arm which with solenoid := .pullIn ends }
  if s.seatClosed which then t.changeArm which { r with state := .seated, timer := none }
  else t.changeArm which { r with state := .seating, timer := some (s.timeAfter s.xtc.seatTimeout) }

/-- EXT_SEAT moves a named arm that is OPEN or in FAULT (R35). -/
def ArmState.seatable : ArmState → Bool
  | .opened => true
  | .fault _ => true
  | .seating => false
  | .seated => false
  | .zeroing => false
  | .zeroed => false
  | .excluded _ => false
  | .releasing => false

/-- EXT_SEAT on one arm (R35, R36). -/
def State.seatArm (named : Bool) (which : Arm) (s : State) : State :=
  if named && (s.arm which).state.seatable then s.enterSeating which else s

/-- A debounced change of an arm's seat input acts by the arm's state (R31, R36, R45). -/
def State.seatChanged (which : Arm) (closed : Bool) (s : State) : State :=
  let r := s.arm which
  match r.state, closed with
  | .seating, true => (s.changeArm which { r with state := .seated, timer := none }).sourceAtArmChange
  | .seated, false => s.excludeArm which .seatLost
  | .zeroing, false => s.excludeArm which .seatLost
  | .zeroed, false => s.excludeArm which .seatLost
  | .releasing, false => (s.changeArm which { r with state := .opened, timer := none }).sourceAtArmChange
  | _, _ => s

/-- At the pull-in end a solenoid still at PULL_IN goes to HOLD (R33). -/
def State.pullInEnd (which : Arm) (s : State) : State :=
  match (s.arm which).solenoid with
  | .pullIn ends => if s.dio.partTime = ends then s.setArm which { s.arm which with solenoid := s.xtc.newHold } else s
  | .off => s
  | .hold _ => s

/-- The end of the on-time or off-time of a hold cycle toggles the output (R101). -/
def State.holdPhaseEnd (which : Arm) (s : State) : State :=
  match (s.arm which).solenoid with
  | .hold c => s.setArm which { s.arm which with solenoid := .hold { c with high := !c.high } }
  | .off => s
  | .pullIn _ => s

/-- The seat timeout of a SEATING arm expires (R37). -/
def State.seatTimeout (which : Arm) (s : State) : State :=
  let r := s.arm which
  if r.state = .seating ∧ r.timer = some s.dio.partTime then
    (s.changeArm which { r with state := .fault .seatTimeout, solenoid := .off, timer := none }).sourceAtArmChange
  else s

/-- The release timeout of a RELEASING arm expires (R46). -/
def State.releaseTimeout (which : Arm) (s : State) : State :=
  let r := s.arm which
  if r.state = .releasing ∧ r.timer = some s.dio.partTime then
    (s.changeArm which { r with state := .fault .releaseTimeout, timer := none }).sourceAtArmChange
  else s

/-! ### Zeroing (R38 to R40) -/

/-- EXT_ZERO moves a named arm that is SEATED, ZEROING or ZEROED (R38). -/
def ArmState.zeroable : ArmState → Bool
  | .seated => true
  | .zeroing => true
  | .zeroed => true
  | .opened => false
  | .seating => false
  | .excluded _ => false
  | .releasing => false
  | .fault _ => false

/-- EXT_ZERO on one arm: ZEROING with a fresh capture; an arm already ZEROING keeps its state, so no ARM event is put (R30,
R38). -/
def State.zeroArm (named : Bool) (which : Arm) (s : State) : State :=
  let r := s.arm which
  if named && r.state.zeroable then
    let fresh :=
      { r with state := .zeroing, zeroCode := none, lastElong := none, slip := false, overrange := false,
               capture := some ⟨0, 0⟩ }
    if r.state = .zeroing then s.setArm which fresh else s.changeArm which fresh
  else s

/-- A conversion of a ZEROING arm: taken into the capture; the 8th code sets the zero code and the arm goes to ZEROED; a
saturated code ends the capture and the arm goes back to SEATED (R39). -/
def State.zeroConversion (which : Arm) (c : Int) (s : State) : State :=
  let r := s.arm which
  if saturatedCode c then (s.changeArm which { r with state := .seated, capture := none }).sourceAtArmChange
  else
    match r.capture with
    | none => s
    | some k =>
      if k.taken + 1 = 8 then
        (s.changeArm which
          { r with state := .zeroed, capture := none, zeroCode := some (roundDiv (k.sum + c) 8) }).sourceAtArmChange
      else s.setArm which { r with capture := some ⟨k.taken + 1, k.sum + c⟩ }

/-! ### Elongation (R27 to R29) -/

/-- The elongation of a raw code (R27). -/
def elongation (c zero scale : Int) : Int := roundDiv ((c - zero) * scale) 1048576

/-- The elongation a conversion gives: none for a saturated code (R27). -/
def ArmRec.elongationOf (r : ArmRec) (c : Int) : Option Int :=
  if saturatedCode c then none
  else
    match r.zeroCode, r.scale with
    | some z, some k => some (elongation c z k)
    | _, _ => none

/-- The change from the last elongation, when there is one, is above the slip threshold (R28, R29). -/
def ArmRec.slipped (r : ArmRec) (x : Int) : Bool :=
  match r.lastElong, r.slipThreshold with
  | some l, some t => decide (t < absDiff x l)
  | _, _ => false

/-- The elongation is above the span (R28, R29). -/
def ArmRec.overSpan (r : ArmRec) (x : Int) : Bool :=
  match r.span with
  | some w => decide (w < mag x)
  | none => false

/-- A conversion of a ZEROED arm in IDLE, RETURNING or ENDED: only flagged (R28). -/
def ArmRec.flagged (r : ArmRec) (c : Int) : ArmRec :=
  match r.elongationOf c with
  | none => if saturatedCode c then { r with overrange := true } else r
  | some x => { r with overrange := r.overSpan x, slip := r.slip || r.slipped x, lastElong := some x }

/-- The exclusion a conversion of a ZEROED arm causes in RUNNING or HOLDING, SLIP tested before OVERRANGE (R29). -/
def ArmRec.exclusion (r : ArmRec) (c : Int) : Option ExclusionCause :=
  match r.elongationOf c with
  | none => if saturatedCode c then some .overrange else none
  | some x => if r.slipped x then some .slip else if r.overSpan x then some .overrange else none

/-- A conversion of a ZEROED arm (R28, R29). -/
def State.zeroedConversion (which : Arm) (c : Int) (s : State) : State :=
  let r := s.arm which
  if s.tsq.state.sampling then
    match r.exclusion c with
    | some cause => s.excludeArm which cause
    | none =>
      match r.elongationOf c with
      | some x => s.setArm which { r with lastElong := some x }
      | none => s
  else s.setArm which (r.flagged c)

/-- An arm conversion: the raw code is stored whatever the state, then the state decides (R27). -/
def State.extConversion (which : Arm) (c : Int) (s : State) : State :=
  let t := s.setArm which { s.arm which with lastRaw := some c }
  match (s.arm which).state with
  | .zeroing => t.zeroConversion which c
  | .zeroed => t.zeroedConversion which c
  | .opened => t
  | .seating => t
  | .seated => t
  | .excluded _ => t
  | .releasing => t
  | .fault _ => t

/-! ### Resets (R48) -/

/-- An arm at RESTART: the configuration and the last raw code are kept (R48). -/
def ArmRec.restarted (r : ArmRec) : ArmRec :=
  { r with state := .opened, solenoid := .off, zeroCode := none, capture := none, lastElong := none, timer := none,
           slip := false, overrange := false }

/-- XTC at RESTART (R48). -/
def Xtc.restarted (x : Xtc) : Xtc := { x with armA := x.armA.restarted, armB := x.armB.restarted }

end Sys2Proof.Machine
end

