-- ==== Sys2Proof/Machine/Results.lean ====
section
/-! DEFINITION. RES: the figures of the test, formed sample by sample (chapter Result Computation). -/

namespace Sys2Proof.Machine

/-! ### The modulus fit (R171 to R173) -/

/-- The greatest n of the fit accumulators (R172). -/
def fitMax : Nat := 4294967295

/-- A sample entered into the fit (R171). -/
def FitSums.enter (f : FitSums) (x y : Int) : FitSums :=
  { n := f.n + 1, x := f.x + x, y := f.y + y, xx := f.xx + x * x, xy := f.xy + x * y }

/-- The denominator D of the fit (R173). -/
def FitSums.denominator (f : FitSums) : Int := f.n * f.xx - f.x * f.x

/-- E_fit, in MPa (R173). -/
def FitSums.fitted (f : FitSums) : Int := roundDiv ((f.n * f.xy - f.x * f.y) * 10000) f.denominator

/-- E as formed at the closure of the fit window (R173). -/
def FitSums.modulus (f : FitSums) (eNominal : Int) : EFigure :=
  if 20 ≤ f.n ∧ 0 < f.denominator then
    if eNominal ≤ 2 * f.fitted ∧ f.fitted ≤ 2 * eNominal then ⟨f.fitted, .fit, f.n⟩
    else ⟨eNominal, .rejected, f.n⟩
  else ⟨eNominal, .nominal, f.n⟩

/-- The closure of an open fit window: E is formed and the Rp search leaves WAITING for SEARCHING with no previous search
sample (R172 to R174). A window already closed stays as it is. -/
def ResItems.closeFit (p : ProfileSpec) (r : ResItems) : ResItems :=
  if r.fitOpen then
    { r with fitOpen := false, rpSearch := .searching, prevSearch := none,
             record := { r.record with e := some (r.sums.modulus p.eNominal) } }
  else r

/-- The elastic strain of a stress, in ppm (R174). -/
def elasticStrain (stress e : Int) : Int := roundDiv (stress * 10000) e

/-- The plastic strain of a stress and strain (R174). -/
def plasticStrain (stress strain e : Int) : Int := strain - elasticStrain stress e

/-! ### The four parts of a qualifying sample (R168) -/

/-- Part 1: the maximum force (R170). -/
def ResItems.takeForce (m : Sample) (load stress : Int) (r : ResItems) : ResItems :=
  let higher :=
    match r.fmaxSample with
    | none => true
    | some f => decide (f.load < load)
  if higher then
    { r with fmaxSample := some ⟨m.index, load, stress, m.strain⟩,
             record := { r.record with fmax := some ⟨load, m.index⟩, rm := some stress } }
  else r

/-- The first yield figure of the test is found on a sample, unless one has been found before (R181). -/
def ResItems.yieldFound (i : Word) (r : ResItems) : ResItems :=
  match r.firstYield with
  | none => { r with firstYield := some i }
  | some _ => r

/-- The stress at or below which a candidate declares ReH (R178). -/
def declareLevel (candidate yieldDrop : Int) : Int := roundDiv (candidate * (10000 - yieldDrop)) 10000

/-- Part 2 while UPPER (R177, R178). The result also says which YIELD event is put. -/
def ResItems.searchUpper (p : ProfileSpec) (i : Word) (stress strain : Int) (r : ResItems) : ResItems × Option Event :=
  if p.yieldLimit ≤ strain then ({ r with yieldSearch := .lapsed }, none)
  else
    match r.candidate with
    | none => ({ r with candidate := some ⟨i, stress, strain⟩ }, none)
    | some c =>
      if p.fitUpper < c.stress ∧ stress ≤ declareLevel c.stress p.yieldDrop then
        let d := { r with record := { r.record with reh := some c }, declared := some i, yieldSearch := .lower }
        ((d.closeFit p).yieldFound i, some (.yield .reh c.stress))
      else if c.stress < stress then ({ r with candidate := some ⟨i, stress, strain⟩ }, none)
      else (r, none)

/-- ReL as compared with a stress (R179). -/
def lowerOf (rel : Option Int) (stress : Int) : Option Int :=
  match rel with
  | none => some stress
  | some l => if stress < l then some stress else some l

/-- Part 2 while LOWER: the end of the yield range, or the comparison for ReL after the transient (R179, R180). -/
def ResItems.searchLower (p : ProfileSpec) (i : Word) (stress strain : Int) (r : ResItems) : ResItems :=
  match r.record.reh, r.declared with
  | some h, some d =>
    if h.stress < stress ∨ h.strain + p.yieldEnd < strain then
      { r with yieldSearch := .complete, record := { r.record with ae := some (strain - h.strain) } }
    else if (d.toNat : Int) + p.transient < (i.toNat : Int) then
      { r with record := { r.record with rel := lowerOf r.record.rel stress } }
    else r
  | _, _ => r

/-- Part 2: the yield search of a sample that carries strain (R177 to R180). -/
def ResItems.takeYield (p : ProfileSpec) (i : Word) (stress strain : Int) (r : ResItems) : ResItems × Option Event :=
  match r.yieldSearch with
  | .upper => r.searchUpper p i stress strain
  | .lower => (r.searchLower p i stress strain, none)
  | .complete => (r, none)
  | .lapsed => (r, none)

/-- Part 3: the fit window (R171, R172). A sample under XHEAD or above fit upper closes it, with or without strain. -/
def ResItems.takeFit (p : ProfileSpec) (m : Sample) (stress : Int) (r : ResItems) : ResItems :=
  if r.fitOpen then
    if m.source = .xhead ∨ p.fitUpper < stress then r.closeFit p
    else
      match m.strain with
      | none => r
      | some strain =>
        if p.fitLower ≤ stress ∧ m.source ≠ .none then
          let entered := { r with sums := r.sums.enter strain stress }
          if entered.sums.n = fitMax then entered.closeFit p else entered
        else r
  else r

/-- The interpolation of R175 between the previous search sample and the present one. -/
def interpolate (before now offset p0 p1 : Int) : Int := before + roundDiv ((now - before) * (offset - p0)) (p1 - p0)

/-- Part 4: the proof-stress search, on a sample that carries strain (R174 to R176). -/
def ResItems.takeProof (p : ProfileSpec) (m : Sample) (stress strain : Int) (r : ResItems) : ResItems × Option Event :=
  match r.rpSearch, r.record.e with
  | .searching, some e =>
    let plastic := plasticStrain stress strain e.e
    if plastic < p.offset then ({ r with prevSearch := some ⟨m.index, stress, strain, plastic⟩ }, none)
    else
      match r.prevSearch with
      | none => ({ r with rpSearch := .window, record := { r.record with rpWindow := true } }, none)
      | some k =>
        let rp := interpolate k.stress stress p.offset k.plastic plastic
        let strainAt := interpolate k.strain strain p.offset k.plastic plastic
        let d := { r with rpSearch := .done, record := { r.record with rp := some ⟨rp, strainAt, m.index, m.source⟩ } }
        (d.yieldFound m.index, some (.yield .rp rp))
  | _, _ => (r, none)

/-- The four parts on a qualifying sample, then the last taken sample. The sample that closes the window is not taken by the
search: part 4 runs only when the search was SEARCHING before the sample (R168, R174). Also the YIELD events, in order. -/
def ResItems.take (p : ProfileSpec) (m : Sample) (load stress : Int) (r : ResItems) : ResItems × List Event :=
  let r1 := r.takeForce m load stress
  let (r2, y2) :=
    match m.strain with
    | none => (r1, none)
    | some strain => r1.takeYield p m.index stress strain
  let r3 := r2.takeFit p m stress
  let (r4, y4) :=
    match m.strain with
    | none => (r3, none)
    | some strain => if r.rpSearch = RpSearch.searching then r3.takeProof p m stress strain else (r3, none)
  ({ r4 with lastTaken := some ⟨m.index, stress, m.strain⟩ }, y2.toList ++ y4.toList)

/-- Several events put in order. -/
def State.putAll : List Event → State → State
  | [], s => s
  | e :: rest, s => State.putAll rest (s.put e)

/-- RES takes a delivered sample: passed over when it carries HELD or no stress; otherwise the state is first copied into the
retained state (R168, R169). -/
def State.resTake (m : Sample) (s : State) : State :=
  match s.tsq.active, m.held, m.load, m.stress with
  | some p, false, some load, some stress =>
    let (items, events) := s.res.items.take p.spec m load stress
    State.putAll events { s with res := { items := items, retained := some s.res.items } }
  | _, _, _, _ => s

/-! ### Finalisation (R182 to R185) -/

/-- The figure formed from a stress and a strain with the final E: Ag (R183) and A (R184). -/
def finalPlastic (e : Option EFigure) (stress : Int) (strain : Option Int) : Option Int :=
  match e, strain with
  | some f, some x => some (plasticStrain stress x f.e)
  | _, _ => none

/-- The searches at finalisation (R183 steps 2 and 3). -/
def RpSearch.finalised : RpSearch → RpSearch
  | .waiting => .lapsed
  | .searching => .lapsed
  | .done => .done
  | .window => .window
  | .lapsed => .lapsed

/-- UPPER lapses, LOWER completes without an end (R183 step 3). -/
def YieldSearch.finalised : YieldSearch → YieldSearch
  | .upper => .lapsed
  | .lower => .complete
  | .complete => .complete
  | .lapsed => .lapsed

/-- Finalisation (R183). -/
def ResItems.finalise (p : ProfileSpec) (r : ResItems) : ResItems :=
  let c := r.closeFit p
  { c with rpSearch := c.rpSearch.finalised, yieldSearch := c.yieldSearch.finalised,
           record := { c.record with ag := c.fmaxSample.bind fun f => finalPlastic c.record.e f.stress f.strain } }

/-- A and the fracture index at a break; the fracture sample is the last taken sample (R184). -/
def ResItems.formFracture (fracture : Option Word) (r : ResItems) : ResItems :=
  { r with record :=
      { r.record with a := r.lastTaken.bind fun t => finalPlastic r.record.e t.stress t.strain, fracture := fracture } }

/-- What RES does at a break: return to the retained state, finalise, form A (R182 to R184). -/
def State.resBreak (fracture : Option Word) (s : State) : State :=
  match s.tsq.active with
  | none => s
  | some p =>
    let back := s.res.retained.getD s.res.items
    { s with res := { s.res with items := (back.finalise p.spec).formFracture fracture } }

/-- The mark of a test end: final for LAST_STEP, BREAK, and ABORT_REQUEST after a break (R163, R185). -/
def finalMark (reason : EndReason) (breakFound : Bool) : Bool :=
  match reason with
  | .lastStep => true
  | .break => true
  | .abortRequest => breakFound
  | .trip => false
  | .halt => false

/-- What RES does at a test end: finalise when no break was found, write the end reason and the mark, put RESULT_READY
(R185). -/
def State.resEnd (reason : EndReason) (s : State) : State :=
  let items :=
    match s.tsq.breakFound, s.tsq.active with
    | false, some p => s.res.items.finalise p.spec
    | _, _ => s.res.items
  let mark := finalMark reason s.tsq.breakFound
  State.put (.resultReady reason mark)
    { s with res :=
        { s.res with items := { items with record := { items.record with reason := some reason, final := some mark } } } }

/-- RES at an accepted TEST_START: emptied, with the texts of the active profile (R188). -/
def Res.started (p : ProfileSpec) : Res :=
  { Res.powerOn with items :=
      { Res.powerOn.items with record := { ResultRecord.empty with specimen := some p.specimen, cast := some p.cast } } }

end Sys2Proof.Machine
end

