-- ==== Sys2Proof/Machine/Sequencer.lean ====
section
/-! DEFINITION. What TSQ reports to XHS, the end of a test, and the opening of the chain as XHS and TSQ take it (chapters
Running a Test and Crosshead Servo). -/

namespace Sys2Proof.Machine

/-! ### Reports to XHS (R77 to R79) -/

/-- The control class of a step mode (section 4.6). -/
def StepMode.controlClass : StepMode → ControlClass
  | .posRate => .position
  | .strainRate => .strain
  | .stressRate => .stress
  | .hold => .position

/-- The demand at rest at the present position (R65, R79). -/
def Xhs.restAcc (x : Xhs) : Int := x.position * positionScale

/-- STILL with the demand at the present position; the effective rate is 0 in STILL, and a jog's renewal time or a target is
absent (R73, R82, R84, R85, R88). -/
def Xhs.toStill (x : Xhs) : Xhs :=
  { x with mode := .still, posAcc := x.restAcc, effRate := 0, target := none, jogRenewal := none }

/-- STILL from a step: the rate transition and the rate demand accumulator are cleared as well (R79, R82). -/
def Xhs.stopped (x : Xhs) : Xhs := { x.toStill with rateAcc := .value 0, transition := none }

/-- The hold and stop reports (R79). -/
def State.servoStop (s : State) : State := { s with xhs := s.xhs.stopped }

/-- The bumpless begin of a step (R78): the rate ramps from 0, the demand starts from the present position, or waits for the
first sample composed after the arrival. -/
def Xhs.beginBumpless (x : Xhs) (composed : Nat) (p : ProfileStep) : Xhs :=
  let t := { x with mode := .step, controlClass := p.mode.controlClass, effRate := 0,
                    transition := some ⟨0, p.rate, p.transition * 1000, 0⟩ }
  match p.mode.controlClass with
  | .position => { t with posAcc := x.restAcc }
  | .strain => { t with rateAcc := .waiting composed }
  | .stress => { t with rateAcc := .waiting composed }

/-- The begin of a step of the class in force: the demand runs on and the rate moves from the rate in force; a HOLD step also
sets the position demand to the present position (R77). -/
def Xhs.beginRunning (x : Xhs) (p : ProfileStep) : Xhs :=
  let t := { x with transition := some ⟨x.effRate, p.rate, p.transition * 1000, 0⟩ }
  match p.mode with
  | .hold => { t with posAcc := x.restAcc }
  | .posRate => t
  | .strainRate => t
  | .stressRate => t

/-- The begin of a step after another (R77, R78). -/
def Xhs.beginStep (x : Xhs) (composed : Nat) (p : ProfileStep) : Xhs :=
  if x.mode = .step ∧ x.controlClass = p.mode.controlClass then x.beginRunning p else x.beginBumpless composed p

/-- TSQ reports the begin of a step to XHS. -/
def State.servoBegin (p : ProfileStep) (s : State) : State :=
  { s with xhs := s.xhs.beginStep s.smp.composed p }

/-- TSQ reports step 0 at TEST_START, or a resume, to XHS (R78, R79). -/
def State.servoBumpless (p : ProfileStep) (s : State) : State :=
  { s with xhs := s.xhs.beginBumpless s.smp.composed p }

/-- TSQ reports a return to XHS (R79, R87). -/
def State.servoReturn (target speed : Int) (s : State) : State :=
  { s with xhs := { s.xhs with mode := .return, target := some ⟨target, speed⟩ } }

/-! ### The end of a test (R139, R163) -/

/-- The step of a profile at an index. -/
def Profile.stepAt (p : Profile) (k : Nat) : Option ProfileStep := p.steps[k]?

/-- The current step of the active copy. -/
def State.currentStep (s : State) : Option ProfileStep :=
  match s.tsq.active, s.tsq.step with
  | some p, some k => p.stepAt k
  | _, _ => none

/-- A pending copy becomes active, with PROFILE_APPLIED (R138, R139). -/
def State.applyPending (whence : AppliedAt) (s : State) : State :=
  match s.tsq.pendingCopy with
  | none => s
  | some p =>
    State.put (.profileApplied whence) { s with tsq := { s.tsq with active := some p, pendingCopy := none } }

/-- A pending copy discarded without an event (R139). -/
def State.dropPending (s : State) : State := { s with tsq := { s.tsq with pendingCopy := none } }

/-- What a test end does with a pending copy (R139). -/
def State.settlePending (reason : EndReason) (s : State) : State :=
  match reason with
  | .abortRequest => s.dropPending
  | .lastStep => s.applyPending .testEnd
  | .break => s.applyPending .testEnd
  | .trip => s.applyPending .testEnd
  | .halt => s.applyPending .testEnd

/-- The entry to ENDED (R163): the state, the pending copy, TEST, the source, RES. -/
def State.enterEnded (reason : EndReason) (s : State) : State :=
  let t := { s with tsq := { s.tsq with state := .ended reason } }
  let u := (t.settlePending reason).put (.test (.ended reason))
  u.sourceAtTestEnd.resEnd reason

/-- XHS reports the end of a return: the test ends as ENDED(BREAK) (R160). -/
def State.returnEnded (s : State) : State := if s.tsq.state = .returning then s.enterEnded .break else s

/-- XHS reports a soft limit met in a step: RUNNING becomes HOLDING(SOFT) (R154). -/
def State.softLimitHold (s : State) : State :=
  if s.tsq.state = .running then s.enterTest (.holding .soft) else s

/-! ### The opening of the chain (R70, R162) -/

/-- Why the chain opens (R113). -/
inductive OpenCause where
  | trip (cause : TripCause)
  | driveOff
  deriving DecidableEq, Repr

/-- XHS at a chain opening (R70), but for its events: the escape, the count and the configuration are kept. -/
def Xhs.disabled (x : Xhs) : Xhs :=
  { x with mode := .disabled, speedWord := 0, velocity := 0, modelVelocity := 0, posAcc := x.restAcc,
           modelAcc := x.restAcc, rateAcc := .value 0, effRate := 0, transition := none, trackCount := 0,
           jogRenewal := none, target := none }

/-- XHS at a chain opening: a running jog ends with JOG_STOP(CHAIN), a running move with MOVE_DONE(ABANDONED) (R70). -/
def State.servoDisable (s : State) : State :=
  let t := { s with xhs := s.xhs.disabled }
  match s.xhs.mode with
  | .jog => t.put (.jogStop .chain)
  | .move => t.put (.moveDone false)
  | .disabled => t
  | .still => t
  | .step => t
  | .return => t

/-- TSQ at a chain opening (R162). DRIVE_OFF is refused in a test state (R114), so only a trip ends a test. -/
def State.testChainOpened (cause : OpenCause) (s : State) : State :=
  match s.tsq.state, cause with
  | .running, .trip c => s.enterEnded (if c = .halt then .halt else .trip)
  | .holding _, .trip c => s.enterEnded (if c = .halt then .halt else .trip)
  | .returning, .trip _ => s.enterEnded .break
  | _, _ => s

end Sys2Proof.Machine
end

