-- ==== Sys2Proof/Machine/DriveChain.lean ====
section
/-! DEFINITION. DEC: the drive enable chain, its trips and what it does with the changes of its inputs (chapter Drive Enable
Chain). -/

namespace Sys2Proof.Machine

/-! ### Opening and tripping (R112, R113) -/

/-- An opening of the chain, in the order of R113: OPEN with guard mode off, CHAIN(OPEN), XHS, TSQ. -/
def State.openChain (cause : OpenCause) (s : State) : State :=
  let t := { s with dec := { s.dec with chain := .opened, guardMode := false } }
  ((t.put (.chain .opened)).servoDisable).testChainOpened cause

/-- A trip cause that arrives at DEC (R112): nothing when it is already in the set; otherwise it is added, becomes the
first-out of an empty set, puts TRIP and opens a CLOSED chain. -/
def State.trip (cause : TripCause) (s : State) : State :=
  if cause ∈ s.dec.trips then s
  else
    let first := if s.dec.trips = [] then some cause else s.dec.firstOut
    let t := State.put (.trip cause) { s with dec := { s.dec with trips := s.dec.trips ++ [cause], firstOut := first } }
    if s.dec.chain = .closed then t.openChain (.trip cause) else t

/-- An OVERLOAD report: overload present becomes yes, and the cause arrives (R120). -/
def State.reportOverload (s : State) : State :=
  State.trip .overload { s with dec := { s.dec with overloadPresent := true } }

/-- A result tested without a report: overload present becomes no (R120). -/
def State.noOverload (s : State) : State := { s with dec := { s.dec with overloadPresent := false } }

/-! ### Closing (R110, R111) -/

/-- XHS at a chain closing (R71). -/
def Xhs.closed (x : Xhs) : Xhs :=
  { x with mode := .still, posAcc := x.restAcc, modelAcc := x.restAcc, velocity := 0, modelVelocity := 0, trackCount := 0,
           effRate := 0 }

/-- The closing of the chain, in the order of R111. -/
def State.closeChain (s : State) : State :=
  let t := { s with dec := { s.dec with chain := .closed, guardMode := !s.asserted .guard } }
  let u := t.put (.chain .closed)
  { u with xhs := u.xhs.closed }

/-- A limit switch is asserted without its escape in effect (R110). -/
def State.limitBlocked (s : State) : Bool :=
  (s.asserted .limitUp && !s.xhs.escapeUp) || (s.asserted .limitDown && !s.xhs.escapeDown)

/-! ### Changes of the inputs (R115 to R119, R124) -/

/-- GUARD becomes not asserted (R116). -/
def State.guardOpened (s : State) : State :=
  if s.dec.chain = .closed then
    if s.testing ∨ s.xhs.config.guardSpeed < mag s.xhs.velocity then s.trip .guard
    else { s with dec := { s.dec with guardMode := true } }
  else s

/-- GUARD becomes asserted: guard mode ends (R117). -/
def State.guardClosed (s : State) : State := { s with dec := { s.dec with guardMode := false } }

/-- TSQ reports the entry to RUNNING at TEST_START: GUARD not asserted trips (R116). -/
def State.guardAtStart (s : State) : State := if s.asserted .guard then s else s.trip .guard

/-- The escape of the upper limit ends (R124). -/
def State.endEscapeUp (s : State) : State := { s with xhs := { s.xhs with escapeUp := false } }

/-- The escape of the lower limit ends (R124). -/
def State.endEscapeDown (s : State) : State := { s with xhs := { s.xhs with escapeDown := false } }

/-- A grip becomes not asserted (R119). -/
def State.gripOpened (s : State) : State := if s.tsq.state.sampling then s.trip .grip else s

/-- The consumer of an input acts on its new logical level (section 5.1, R98): DEC by R115 to R119 and R124, XTC by R31; AUX
has no consumer. -/
def State.consume (i : Input) (asserted : Bool) (s : State) : State :=
  match i, asserted with
  | .estop, false => s.trip .estop
  | .estop, true => s
  | .driveReady, false => s.trip .driveFault
  | .driveReady, true => s
  | .guard, false => s.guardOpened
  | .guard, true => s.guardClosed
  | .limitUp, true => s.trip .limitUp
  | .limitUp, false => s.endEscapeUp
  | .limitDown, true => s.trip .limitDown
  | .limitDown, false => s.endEscapeDown
  | .gripUpper, false => s.gripOpened
  | .gripUpper, true => s
  | .gripLower, false => s.gripOpened
  | .gripLower, true => s
  | .extASeat, closed => s.seatChanged .a closed
  | .extBSeat, closed => s.seatChanged .b closed
  | .aux, _ => s

/-! ### Clearing trips (R122, R123) -/

/-- Whether the condition of a latched cause is still present, so that TRIP_CLEAR keeps it (R122). -/
def State.conditionPresent (s : State) : TripCause → Bool
  | .estop => !s.asserted .estop
  | .driveFault => !s.asserted .driveReady
  | .guard => !s.asserted .guard
  | .limitUp => false
  | .limitDown => false
  | .grip => false
  | .overload => s.dec.overloadPresent
  | .tracking => false
  | .encoder => false
  | .halt => s.lnk.inBreak

/-- TRIP_CLEAR on a set that is not empty (R122, R123): the causes whose condition is gone are removed; a limit removed with
its switch still asserted sets its escape; an emptied set clears the first-out and puts TRIP_CLEARED. -/
def State.clearTrips (s : State) : State :=
  let kept := s.dec.trips.filter s.conditionPresent
  let up := s.xhs.escapeUp || (decide (TripCause.limitUp ∈ s.dec.trips) && s.asserted .limitUp)
  let down := s.xhs.escapeDown || (decide (TripCause.limitDown ∈ s.dec.trips) && s.asserted .limitDown)
  let t := { s with xhs := { s.xhs with escapeUp := up, escapeDown := down } }
  if kept = [] then State.put .tripCleared { t with dec := { t.dec with trips := [], firstOut := none } }
  else { t with dec := { t.dec with trips := kept } }

/-! ### Starting levels (R125, R126) -/

/-- The evaluation of the starting levels at a reset: ESTOP, LIMIT_UP, LIMIT_DOWN in this order (R125). -/
def State.evaluateStart (s : State) : State :=
  let t := if s.asserted .estop then s else s.trip .estop
  let u := if t.asserted .limitUp then t.trip .limitUp else t
  if u.asserted .limitDown then u.trip .limitDown else u

end Sys2Proof.Machine
end

