-- ==== Sys2Proof/Machine/Operands.lean ====
section
/-! DEFINITION. The operand codes of request payloads (R218): each reader answers none for a code outside its list, which the
owner's rule refuses BAD_VALUE. -/

namespace Sys2Proof.Machine

/-- 0 FINE, 1 WIDE. -/
def rangeOf (b : Byte) : Option LoadRange :=
  match b.toNat with
  | 0 => some .fine
  | 1 => some .wide
  | _ => none

/-- 0 AUTO, 1 FINE, 2 WIDE. -/
def rangeModeOf (b : Byte) : Option RangeMode :=
  match b.toNat with
  | 0 => some .auto
  | 1 => some .fine
  | 2 => some .wide
  | _ => none

/-- The arms an arm select code names: 1 A, 2 B, 3 both; whether A and whether B is named. -/
def armSelectOf (b : Byte) : Option (Bool × Bool) :=
  match b.toNat with
  | 1 => some (true, false)
  | 2 => some (false, true)
  | 3 => some (true, true)
  | _ => none

/-- A two-valued code: 0 (no, off, NORMAL, STATUS) or 1 (yes, on, INVERTED, QUEUE). -/
def flagOf (b : Byte) : Option Bool :=
  match b.toNat with
  | 0 => some false
  | 1 => some true
  | _ => none

/-- An input index 0 to 9 (section 5.1). -/
def inputOf (b : Byte) : Option Input := allInputs[b.toNat]?

/-- 0 EXT, 1 XHEAD. -/
def planOf (b : Byte) : Option StrainPlan :=
  match b.toNat with
  | 0 => some .ext
  | 1 => some .xhead
  | _ => none

/-- 0 POS_RATE, 1 STRAIN_RATE, 2 STRESS_RATE, 3 HOLD. -/
def stepModeOf (b : Byte) : Option StepMode :=
  match b.toNat with
  | 0 => some .posRate
  | 1 => some .strainRate
  | 2 => some .stressRate
  | 3 => some .hold
  | _ => none

/-- A decimation base: 1, 2, 4, 8, 16, 32 or 64 (R198). -/
def baseOf (b : Byte) : Option Nat := if b.toNat ∈ [1, 2, 4, 8, 16, 32, 64] then some b.toNat else none

/-- The profile copies a PROFILE_READ names: 0 STAGED, 1 ACTIVE, 2 PENDING. -/
inductive CopyName where
  | staged | active | pending
  deriving DecidableEq, Repr

/-- 0 STAGED, 1 ACTIVE, 2 PENDING. -/
def copyOf (b : Byte) : Option CopyName :=
  match b.toNat with
  | 0 => some .staged
  | 1 => some .active
  | 2 => some .pending
  | _ => none

/-- The frame configuration a FRAME_CONFIG payload gives. Signed fields are in two's complement (R218). -/
def frameConfigOf (f : FrameConfigFields) : FrameConfig where
  maxSpeed := f.maxSpeed.toInt
  guardSpeed := f.guardSpeed.toInt
  fullScale := f.fullScale.toInt
  softLower := f.softLower.toInt
  softUpper := f.softUpper.toInt
  trackTolerance := f.trackTolerance.toInt
  tau := f.tau.toInt
  kpPos := f.kpPos.toInt
  kStrain := f.kStrain.toInt
  kStress := f.kStress.toInt
  compliance := f.compliance.toInt
  frameOverload := f.frameOverload.toInt

/-- Every field of a frame configuration within its range in the table of R92, the soft limits in order. -/
def FrameConfig.inRanges (c : FrameConfig) : Bool :=
  inRange 1 600000 c.maxSpeed && inRange 1 60000 c.guardSpeed && inRange 1 1000000 c.fullScale &&
  inRange (-2147483648) 2147483647 c.softLower && inRange (-2147483648) 2147483647 c.softUpper &&
  inRange 100 1000000 c.trackTolerance && inRange 1000 200000 c.tau && inRange 0 6000 c.kpPos &&
  inRange 0 100000 c.kStrain && inRange 0 100000 c.kStress && inRange 0 100000 c.compliance &&
  inRange 1 8000000 c.frameOverload && decide (c.softLower < c.softUpper)

/-- The points of a CAL_WRITE as numbers: raw code and load are signed (R13, R218). -/
def calPointsOf (points : List (Word × Word)) : List CalPoint := points.map fun p => ⟨p.1.toInt, p.2.toInt⟩

/-- Raw codes strictly increasing along the list (R3). -/
def codesRising : List CalPoint → Bool
  | [] => true
  | [_] => true
  | p :: q :: rest => decide (p.code < q.code) && codesRising (q :: rest)

/-- The table of a CAL_WRITE is acceptable: 0 or 2 to 11 points, codes and loads in range, codes strictly increasing (R13). -/
def tableValid (t : List CalPoint) : Bool :=
  (t.length == 0 || (2 ≤ t.length && t.length ≤ 11)) &&
  t.all (fun p => inRange (-8388608) 8388607 p.code && inRange (-loadLimit) loadLimit p.load) && codesRising t

/-- One arm's fields within the ranges of section 2.1 (R26). -/
def armFieldsValid (f : ArmConfigFields) : Bool :=
  (flagOf f.enabled).isSome && inRange 1 16777216 f.scale.toInt && inRange 1 1000000 f.span.toInt &&
  inRange 100 100000 f.slip.toInt

/-- Every field of an EXT_CONFIG within the ranges of section 2.1 (R26). -/
def extFieldsValid (f : ExtConfigFields) : Bool :=
  armFieldsValid f.armA && armFieldsValid f.armB && inRange 50 500 f.pullIn.toNat && inRange 50 950 f.holdOn.toNat &&
  inRange 50 950 f.holdOff.toNat && inRange 100 2000 f.seatTimeout.toNat && inRange 100 2000 f.releaseTimeout.toNat

/-- A field with a default: present or absent by its bit of the presence word (section 11.8). -/
def presentIf {w : Nat} (p : Half) (bit : Nat) (v : BitVec w) : Option (BitVec w) :=
  if p.getLsbD bit then some v else none

/-- The staged spec part a PROFILE_SPEC_WRITE payload gives (R131); character bytes beyond the text length are not read. -/
def stagedSpecOf (f : SpecFields) : StagedSpec where
  s0 := f.s0
  l0 := f.l0
  lc := f.lc
  eNominal := f.eNominal
  specimen := f.specimen.take f.specimenLength.toNat
  cast := f.cast.take f.castLength.toNat
  plan := f.plan
  fitLower := f.fitLower
  fitUpper := f.fitUpper
  offset := presentIf f.presence 0 f.offset
  yieldDrop := presentIf f.presence 1 f.yieldDrop
  transient := presentIf f.presence 2 f.transient
  yieldLimit := presentIf f.presence 3 f.yieldLimit
  yieldEnd := presentIf f.presence 4 f.yieldEnd
  armLoad := f.armLoad
  breakStep := presentIf f.presence 5 f.breakStep
  breakFloor := presentIf f.presence 6 f.breakFloor
  testOverload := presentIf f.presence 7 f.testOverload
  returnAfter := f.returnAfter
  returnSpeed := f.returnSpeed
  traceBase := f.traceBase
  stepCount := f.stepCount

end Sys2Proof.Machine
end

