-- ==== Sys2Proof/Machine/Flags.lean ====
section
/-! DEFINITION. The bitmaps and flag bytes that replies and trace records carry (R218, R220 to R223): bit 0 is the first of
each list. -/

namespace Sys2Proof.Machine

/-- The number whose bit n is the n-th mark of a list. -/
def bitsValue : List Bool → Nat
  | [] => 0
  | b :: rest => (if b then 1 else 0) + 2 * bitsValue rest

/-- A flag byte. The tables of R221 and R223 name some bits of their flag bytes only and give the others no value: that these
are 0 is the model's choice (DESIGN CHOICE, notes/assumptions/27.md). -/
def flagByte (bits : List Bool) : Byte := BitVec.ofNat 8 (bitsValue bits)

/-- A two-byte bitmap. R212 and R218 give the bits above the items of a bitmap no value, bit 15 of the presence word of R222
apart: that these are 0 is the model's choice (DESIGN CHOICE, notes/assumptions/27.md). -/
def flagHalf (bits : List Bool) : Half := BitVec.ofNat 16 (bitsValue bits)

/-- The trip causes in the order of their codes 1 to 10 (R218). -/
def allTrips : List TripCause :=
  [.estop, .guard, .limitUp, .limitDown, .overload, .tracking, .encoder, .driveFault, .grip, .halt]

/-- The trip set bitmap: bit cause - 1 for each cause in the set (R218). -/
def tripBitmap (trips : List TripCause) : Half := flagHalf (allTrips.map fun c => decide (c ∈ trips))

/-- The input level bitmap: bit n is set when input n is asserted (R218). -/
def State.levelBitmap (s : State) : Half := flagHalf (allInputs.map fun i => s.asserted i)

/-- The missing permissives of DRIVE_ON, in the order TRIPS, ESTOP, DRIVE_READY, LOAD_RANGE, MONITOR, LIMIT (R110, R218). -/
def State.missingPermissives (blocked : Bool) (s : State) : List Bool :=
  [!s.dec.trips.isEmpty, !s.asserted .estop, !s.asserted .driveReady, !s.rangeValid, !s.xhs.monitorProven, blocked]

/-- The flag byte of a sample in the layout of a trace record (R220). -/
def sampleFlags (m : Sample) (gap : Bool) : Byte :=
  flagByte [m.held, m.clamped, m.handover, m.forced, gap, m.load.isSome, m.stress.isSome, m.strain.isSome]

/-- The presence word of the result record (R222). -/
def resultPresence (r : ResultRecord) : Half :=
  flagHalf [r.specimen.isSome, r.cast.isSome, r.e.isSome, r.rp.isSome, r.rpWindow, r.reh.isSome, r.rel.isSome, r.ae.isSome,
            r.fmax.isSome, r.rm.isSome, r.ag.isSome, r.a.isSome, r.fracture.isSome, r.reason.isSome, r.final.isSome]

/-- Byte 26 of READ_NOW: SHUNT_EN and ATTN (R223). -/
def State.outputFlags (s : State) : Byte := flagByte [s.ldc.shuntEn, s.attn]

/-- Byte 47 of READ_NOW: the arms' flags and what of them is present (R223). -/
def State.armFlags (s : State) : Byte :=
  flagByte [s.xtc.armA.slip, s.xtc.armA.overrange, s.xtc.armB.slip, s.xtc.armB.overrange, s.xtc.armA.lastRaw.isSome,
            s.xtc.armB.lastRaw.isSome, s.xtc.armA.lastElong.isSome, s.xtc.armB.lastElong.isSome]

/-- Byte 55 of READ_NOW: guard mode and the escapes (R223). -/
def State.chainFlags (s : State) : Byte := flagByte [s.dec.guardMode, s.xhs.escapeUp, s.xhs.escapeDown]

/-- Byte 65 of READ_NOW: the current range, the validity of each range, tare and shunt check in progress (R223). -/
def State.loadFlags (s : State) : Byte :=
  flagByte [decide (s.ldc.range = .wide), s.ldc.valid .fine, s.ldc.valid .wide, s.ldc.tareProgress.isSome,
            s.ldc.shunt.isSome]

/-- Byte 75 of READ_NOW: monitor-proven and monitor test in progress (R223). -/
def State.monitorFlags (s : State) : Byte := flagByte [s.xhs.monitorProven, s.xhs.monitor.isSome]

/-- Byte 76 of READ_NOW: streaming and the gap mark (R223). -/
def State.traceFlags (s : State) : Byte := flagByte [s.trb.streaming, s.trb.gap]

/-- Byte 3 of an event entry: state present, state set, value present (R221); bits 3 to 7 by notes/assumptions/27.md. -/
def eventFlags (mark : Option Bool) (hasValue : Bool) : Byte := flagByte [mark.isSome, mark.getD false, hasValue]

end Sys2Proof.Machine
end

