-- ==== Sys2Proof/Machine/Replies.lean ====
section
/-! DEFINITION. The codes and byte layouts of replies, event entries, trace records and the result record (R210 to R212, R214,
R218 to R223), and the answers that only read the state. -/

namespace Sys2Proof.Machine

/-! ### Numbers (R218) -/

/-- Four bytes of a signed number in two's complement; a number that does not fit gives bytes that the spec leaves open
(notes/assumptions/1.md). -/
def signedWord (x : Int) : Word :=
  if inRange (-2147483648) 2147483647 x then BitVec.ofInt 32 x else Config.outsideWord x

/-- Four bytes of a signed number, high byte first. -/
def signedBytes (x : Int) : List Byte := wordBytes (signedWord x)

/-- An absent signed number is sent as zero bytes. -/
def optSignedBytes : Option Int → List Byte
  | none => wordBytes 0
  | some x => signedBytes x

/-- A number of one byte. -/
def natByte (n : Nat) : Byte := BitVec.ofNat 8 n

/-- A number of two bytes, high byte first. -/
def natHalf (n : Nat) : List Byte := halfBytes (BitVec.ofNat 16 n)

/-- A number of four bytes, high byte first. -/
def natWord (n : Nat) : List Byte := wordBytes (BitVec.ofNat 32 n)

/-- A two-valued code: no or yes, off or on, clear or set. -/
def boolByte (b : Bool) : Byte := if b then 1 else 0

/-- Text bytes padded with 0x00 to the size of the field, after the length byte (section 11.8). -/
def textBytes (size : Nat) (t : List Byte) : List Byte := natByte t.length :: (t ++ List.replicate (size - t.length) 0)

/-! ### Codes (R218) -/

/-- 0 FINE, 1 WIDE. -/
def rangeCode : LoadRange → Byte
  | .fine => 0
  | .wide => 1

/-- 0 AUTO, 1 FINE, 2 WIDE. -/
def rangeModeCode : RangeMode → Byte
  | .auto => 0
  | .fine => 1
  | .wide => 2

/-- 0 OPEN, 1 CLOSED. -/
def chainCode : ChainState → Byte
  | .opened => 0
  | .closed => 1

/-- The test state code. -/
def testCode : TestState → Byte
  | .idle => 0
  | .running => 1
  | .holding _ => 2
  | .returning => 3
  | .ended _ => 4

/-- The hold cause code, 0 when absent. -/
def holdCode : TestState → Byte
  | .holding .request => 1
  | .holding .soft => 2
  | .idle => 0
  | .running => 0
  | .returning => 0
  | .ended _ => 0

/-- The code of an end reason. -/
def reasonCode : EndReason → Byte
  | .lastStep => 1
  | .break => 2
  | .abortRequest => 3
  | .trip => 4
  | .halt => 5

/-- The end reason code of a test state, 0 when absent. -/
def endCode : TestState → Byte
  | .ended r => reasonCode r
  | .idle => 0
  | .running => 0
  | .holding _ => 0
  | .returning => 0

/-- The trip cause code. -/
def tripCode : TripCause → Byte
  | .estop => 1
  | .guard => 2
  | .limitUp => 3
  | .limitDown => 4
  | .overload => 5
  | .tracking => 6
  | .encoder => 7
  | .driveFault => 8
  | .grip => 9
  | .halt => 10

/-- The first-out code, 0 for none. -/
def firstOutCode : Option TripCause → Byte
  | none => 0
  | some c => tripCode c

/-- The strain source code. -/
def sourceCode : StrainSource → Byte
  | .none => 0
  | .extAvg => 1
  | .extA => 2
  | .extB => 3
  | .xhead => 4

/-- The arm state code. -/
def armStateCode : ArmState → Byte
  | .opened => 0
  | .seating => 1
  | .seated => 2
  | .zeroing => 3
  | .zeroed => 4
  | .excluded .slip => 5
  | .excluded .seatLost => 6
  | .excluded .overrange => 7
  | .releasing => 8
  | .fault .seatTimeout => 9
  | .fault .releaseTimeout => 10

/-- The solenoid level code. -/
def solenoidCode : Solenoid → Byte
  | .off => 0
  | .pullIn _ => 1
  | .hold _ => 2

/-- The servo mode code. -/
def servoModeCode : ServoMode → Byte
  | .disabled => 0
  | .still => 1
  | .jog => 2
  | .move => 3
  | .step => 4
  | .return => 5

/-- The strain plan code. -/
def planCode : StrainPlan → Byte
  | .ext => 0
  | .xhead => 1

/-- The step mode code. -/
def stepModeCode : StepMode → Byte
  | .posRate => 0
  | .strainRate => 1
  | .stressRate => 2
  | .hold => 3

/-- The E basis code. -/
def basisCode : EBasis → Byte
  | .fit => 1
  | .nominal => 2
  | .rejected => 3

/-- The refusal reasons, with their codes 1 to 13. -/
inductive Reason where
  | unknownKind | badLength | badValue | busy | state | chain | notReady | locked | limit | noCal | noProfile | notSeated
  | tripped
  deriving DecidableEq, Repr

/-- The refusal reason code. -/
def refusalCode : Reason → Byte
  | .unknownKind => 1
  | .badLength => 2
  | .badValue => 3
  | .busy => 4
  | .state => 5
  | .chain => 6
  | .notReady => 7
  | .locked => 8
  | .limit => 9
  | .noCal => 10
  | .noProfile => 11
  | .notSeated => 12
  | .tripped => 13

/-- A step index, 0xFF when absent (R220, R223). -/
def stepByte : Option Nat → Byte
  | none => 0xFF
  | some k => natByte k

/-! ### Answers and reply frames (R209 to R212) -/

/-- The answer of the owning block to a request: an acknowledgement with its answer bytes, or a refusal with its reason and
detail (R209, R212). -/
inductive Answer where
  | ack (bytes : List Byte)
  | refuse (reason : Reason) (detail : Half)
  deriving DecidableEq, Repr

/-- A refusal with detail 0x0000 (R212). -/
def Answer.no (r : Reason) : Answer := .refuse r 0

/-- The status header (R211, R219). -/
def State.statusHeader (s : State) : List Byte :=
  [natByte s.evq.entries.length, chainCode s.dec.chain, testCode s.tsq.state, firstOutCode s.dec.firstOut]

/-- The kind byte of a refusal (R210). -/
def refusalKind : Byte := 0xFE#8

/-- The kind byte of a trace frame (R214). -/
def traceKind : Byte := 0xF1#8

/-- The kind byte of an acknowledgement (R210). -/
def ackKind (kind : Byte) : Byte := kind + 0x80#8

/-- The reply to a request frame, made with the state after the owning block has acted (R210, R211, R219). -/
def State.reply (f : Frame) (a : Answer) (s : State) : Frame :=
  match a with
  | .ack bytes => ⟨ackKind f.kind, f.tag, s.statusHeader ++ bytes⟩
  | .refuse reason detail =>
    ⟨refusalKind, f.tag, s.statusHeader ++ f.kind :: refusalCode reason :: halfBytes detail⟩

/-! ### Trace records and samples (R214, R220) -/

/-- A sample in the 24-byte layout of a trace record (R220). -/
def sampleBytes (m : Sample) (gap : Bool) (factor : Byte) : List Byte :=
  wordBytes m.index ++ signedBytes m.position ++ optSignedBytes m.load ++ optSignedBytes m.stress ++
  optSignedBytes m.strain ++ [sourceCode m.source, stepByte m.step, sampleFlags m gap, factor]

/-- The bytes of a trace record (R220). -/
def TraceRecord.bytes (r : TraceRecord) : List Byte := sampleBytes r.sample r.gap (natByte r.factor)

/-- The trace frame of a record (R214). -/
def TraceRecord.frame (r : TraceRecord) : Frame := ⟨traceKind, 0, r.bytes⟩

/-! ### Event entries (R106, R221) -/

/-- The parts of an event entry before its part time: code, Q1, Q2, the state, the value (R108, R221). -/
structure EntryParts where
  code : Byte
  q1 : Byte
  q2 : Byte
  mark : Option Bool
  value : Option Word
  deriving DecidableEq, Repr

/-- An entry of a code with neither state nor value. -/
def plainEntry (code q1 q2 : Byte) : EntryParts := ⟨code, q1, q2, none, none⟩

/-- The code of the cause of a source change (R221). -/
def sourceCauseCode : SourceCause → Byte
  | .set => 1
  | .testEnd => 2
  | .start => 3
  | .fallback => 4
  | .handover => 5
  | .forced => 6

/-- The code of a jog stop (R221). -/
def jogStopCode : JogStop → Byte
  | .request => 1
  | .timeout => 2
  | .limit => 3
  | .chain => 4

/-- The code of when a profile was applied (R221). -/
def appliedCode : AppliedAt → Byte
  | .now => 1
  | .boundary => 2
  | .testEnd => 3

/-- The code of a shunt outcome (R221). -/
def shuntCode : ShuntOutcome → Byte
  | .pass => 1
  | .fail => 2
  | .abandoned => 3

/-- 0 arm A, 1 arm B (R221). -/
def armCode : Arm → Byte
  | .a => 0
  | .b => 1

/-- Q2 of TEST: the hold cause or the end reason (R221). -/
def testQ2 : TestState → Byte
  | .holding c => holdCode (.holding c)
  | .ended r => reasonCode r
  | .idle => 0
  | .running => 0
  | .returning => 0

/-- The code and qualifiers of an event (R221), with the state and value that R108 gives it. -/
def Event.parts : Event → EntryParts
  | .startUp byRestart => plainEntry 1 (if byRestart then 2 else 1) 0
  | .input i asserted => ⟨2, natByte (inputIndex i), 0, some asserted, none⟩
  | .trip c => plainEntry 3 (tripCode c) 0
  | .tripCleared => plainEntry 4 0 0
  | .chain c => plainEntry 5 (chainCode c) 0
  | .test t => plainEntry 6 (testCode t) (testQ2 t)
  | .step k => plainEntry 7 (natByte k) 0
  | .breakFound k i => ⟨8, natByte k, 0, none, some i⟩
  | .yield f v => ⟨9, if f = .reh then 1 else 2, 0, none, some (signedWord v)⟩
  | .resultReady r final => ⟨10, reasonCode r, 0, some final, none⟩
  | .profileApplied w => plainEntry 11 (appliedCode w) 0
  | .arm which t => plainEntry 12 (armCode which) (armStateCode t)
  | .source x c => plainEntry 13 (sourceCode x) (sourceCauseCode c)
  | .range r => plainEntry 14 (rangeCode r) 0
  | .tareDone ok t => ⟨15, if ok then 1 else 2, 0, none, some (signedWord t)⟩
  | .shuntDone o r d => ⟨16, shuntCode o, rangeCode r, none, d.map signedWord⟩
  | .monitorDone pass => plainEntry 17 (if pass then 1 else 2) 0
  | .moveDone arrived => plainEntry 18 (if arrived then 1 else 2) 0
  | .jogStop how => plainEntry 19 (jogStopCode how) 0
  | .softLimit upper => plainEntry 20 (if upper then 1 else 2) 0
  | .decim d => plainEntry 21 (natByte d) 0

/-- The 12 bytes of an event entry (R221). -/
def Entry.bytes (e : Entry) : List Byte :=
  let p := e.event.parts
  [p.code, p.q1, p.q2, eventFlags p.mark p.value.isSome] ++ wordBytes (p.value.getD 0) ++ wordBytes e.time

/-! ### The result record (R222) -/

/-- A text of the result record, absent as zero bytes. -/
def optTextBytes (size : Nat) : Option (List Byte) → List Byte
  | none => textBytes size []
  | some t => textBytes size t

/-- E with its basis and n. -/
def optEBytes : Option EFigure → List Byte
  | none => List.replicate 9 0
  | some f => signedBytes f.e ++ basisCode f.basis :: natWord f.n

/-- Rp with its strain, index and source. -/
def optRpBytes : Option RpFigure → List Byte
  | none => List.replicate 13 0
  | some f => signedBytes f.rp ++ signedBytes f.strain ++ wordBytes f.index ++ [sourceCode f.source]

/-- ReH with its strain and index. -/
def optPointBytes : Option CurvePoint → List Byte
  | none => List.replicate 12 0
  | some p => signedBytes p.stress ++ signedBytes p.strain ++ wordBytes p.index

/-- Fmax with its index. -/
def optFmaxBytes : Option FmaxFigure → List Byte
  | none => List.replicate 8 0
  | some f => signedBytes f.load ++ wordBytes f.index

/-- An index, absent as zero bytes. -/
def optWordBytes : Option Word → List Byte
  | none => wordBytes 0
  | some w => wordBytes w

/-- The end reason of the record, 0 when absent. -/
def optReasonByte : Option EndReason → Byte
  | none => 0
  | some r => reasonCode r

/-- The mark of the record: 1 final, 2 partial, 0 when absent. -/
def markByte : Option Bool → Byte
  | none => 0
  | some true => 1
  | some false => 2

/-- The 100 bytes of the result record (R222). -/
def ResultRecord.bytes (r : ResultRecord) : List Byte :=
  halfBytes (resultPresence r) ++ optTextBytes 16 r.specimen ++ optTextBytes 12 r.cast ++ optEBytes r.e ++
  optRpBytes r.rp ++ optPointBytes r.reh ++ optSignedBytes r.rel ++ optSignedBytes r.ae ++ optFmaxBytes r.fmax ++
  optSignedBytes r.rm ++ optSignedBytes r.ag ++ optSignedBytes r.a ++ optWordBytes r.fracture ++
  [optReasonByte r.reason, markByte r.final]

/-! ### STATUS_READ and READ_NOW (R223) -/

/-- The 8-byte answer to STATUS_READ (R223). -/
def State.statusAnswer (s : State) : List Byte :=
  s.lnk.rateCode.setWidth 8 :: (halfBytes (tripBitmap s.dec.trips) ++
  [holdCode s.tsq.state, endCode s.tsq.state, stepByte s.tsq.step, boolByte s.tsq.pendingCopy.isSome,
   boolByte s.evq.overflow])

/-- The last sample in READ_NOW: factor byte 0, or, when absent, all bytes 0 and factor byte 0xFF (R223). GAP belongs to a
trace record (R191) and R223 does not say what its bit is here: that it is 0 is the model's choice (DESIGN CHOICE,
notes/assumptions/28.md). -/
def State.lastSampleBytes (s : State) : List Byte :=
  match s.smp.last with
  | some l => sampleBytes l.sample false 0
  | none => List.replicate 23 0 ++ [0xFF]

/-- The 81-byte answer to READ_NOW (R223). -/
def State.readNowAnswer (s : State) : List Byte :=
  s.lastSampleBytes ++ halfBytes s.levelBitmap ++ [s.outputFlags] ++
  [solenoidCode s.xtc.armA.solenoid, solenoidCode s.xtc.armB.solenoid] ++
  [armStateCode s.xtc.armA.state, armStateCode s.xtc.armB.state] ++
  optSignedBytes s.xtc.armA.lastRaw ++ optSignedBytes s.xtc.armB.lastRaw ++
  optSignedBytes s.xtc.armA.lastElong ++ optSignedBytes s.xtc.armB.lastElong ++ [s.armFlags] ++
  [sourceCode s.smp.source] ++ signedBytes s.smp.sourceOffset ++ halfBytes (tripBitmap s.dec.trips) ++ [s.chainFlags] ++
  [holdCode s.tsq.state, endCode s.tsq.state, stepByte s.tsq.step] ++ natWord s.tsq.stepTime ++
  [boolByte s.tsq.pendingCopy.isSome] ++ [rangeModeCode s.ldc.mode, s.loadFlags] ++ signedBytes s.ldc.tare ++
  [servoModeCode s.xhs.mode] ++ signedBytes s.xhs.velocity ++ [s.monitorFlags, s.traceFlags] ++
  [natByte s.trb.base, natByte s.trb.factor] ++ natHalf s.trb.buffer.length

/-- The answer of EXT_SEAT, EXT_ZERO and EXT_RELEASE: the states of both arms (R217). -/
def State.armAnswer (s : State) : Answer :=
  .ack [armStateCode s.xtc.armA.state, armStateCode s.xtc.armB.state]

/-- The answer of CAL_READ: the points and the shunt parameters of a range (R14, R217). -/
def Ldc.calAnswer (l : Ldc) (r : LoadRange) : List Byte :=
  natByte (l.table r).length ::
    ((l.table r).flatMap (fun p => signedBytes p.code ++ signedBytes p.load) ++
     (signedBytes (l.shuntParams r).expected ++ signedBytes (l.shuntParams r).tolerance))

/-! ### PROFILE_READ (R141, section 11.8) -/

/-- An absent field is sent as zero. -/
def orZero {w : Nat} (v : Option (BitVec w)) : BitVec w := v.getD 0

/-- The presence word of a staged spec part (section 11.8). -/
def StagedSpec.presence (f : StagedSpec) : Half :=
  flagHalf [f.offset.isSome, f.yieldDrop.isSome, f.transient.isSome, f.yieldLimit.isSome, f.yieldEnd.isSome,
            f.breakStep.isSome, f.breakFloor.isSome, f.testOverload.isSome]

/-- The staged spec part in the spec layout: the fields as written, absent fields marked absent (R141). -/
def StagedSpec.fields (f : StagedSpec) : SpecFields where
  presence := f.presence
  s0 := f.s0
  l0 := f.l0
  lc := f.lc
  eNominal := f.eNominal
  specimenLength := natByte f.specimen.length
  specimen := f.specimen ++ List.replicate (16 - f.specimen.length) 0
  castLength := natByte f.cast.length
  cast := f.cast ++ List.replicate (12 - f.cast.length) 0
  plan := f.plan
  fitLower := f.fitLower
  fitUpper := f.fitUpper
  offset := orZero f.offset
  yieldDrop := orZero f.yieldDrop
  transient := orZero f.transient
  yieldLimit := orZero f.yieldLimit
  yieldEnd := orZero f.yieldEnd
  armLoad := f.armLoad
  breakStep := orZero f.breakStep
  breakFloor := orZero f.breakFloor
  testOverload := orZero f.testOverload
  returnAfter := f.returnAfter
  returnSpeed := f.returnSpeed
  traceBase := f.traceBase
  stepCount := f.stepCount

/-- A spec part of an active or pending copy in the spec layout: every field present (R141). -/
def Profile.fields (p : Profile) : SpecFields where
  presence := 0x00FF#16
  s0 := BitVec.ofInt 32 p.spec.s0
  l0 := BitVec.ofInt 32 p.spec.l0
  lc := BitVec.ofInt 32 p.spec.lc
  eNominal := BitVec.ofInt 32 p.spec.eNominal
  specimenLength := natByte p.spec.specimen.length
  specimen := p.spec.specimen ++ List.replicate (16 - p.spec.specimen.length) 0
  castLength := natByte p.spec.cast.length
  cast := p.spec.cast ++ List.replicate (12 - p.spec.cast.length) 0
  plan := planCode p.spec.plan
  fitLower := BitVec.ofInt 32 p.spec.fitLower
  fitUpper := BitVec.ofInt 32 p.spec.fitUpper
  offset := BitVec.ofInt 16 p.spec.offset
  yieldDrop := BitVec.ofInt 16 p.spec.yieldDrop
  transient := BitVec.ofInt 16 p.spec.transient
  yieldLimit := BitVec.ofInt 32 p.spec.yieldLimit
  yieldEnd := BitVec.ofInt 32 p.spec.yieldEnd
  armLoad := BitVec.ofInt 32 p.spec.armLoad
  breakStep := BitVec.ofInt 8 p.spec.breakStep
  breakFloor := BitVec.ofInt 8 p.spec.breakFloor
  testOverload := BitVec.ofInt 32 p.spec.testOverload
  returnAfter := boolByte p.spec.returnAfter
  returnSpeed := BitVec.ofInt 32 p.spec.returnSpeed
  traceBase := BitVec.ofInt 8 p.spec.traceBase
  stepCount := natByte p.steps.length

/-- A step of an active or pending copy as a step record (R141). -/
def ProfileStep.record (k : ProfileStep) : StepRecord where
  mode := stepModeCode k.mode
  rate := BitVec.ofInt 32 k.rate
  transition := BitVec.ofInt 16 k.transition
  count := natByte k.count
  quantity1 := k.cond1.quantity
  threshold1 := k.cond1.threshold
  quantity2 := k.cond2.quantity
  threshold2 := k.cond2.threshold
  release := boolByte k.release

/-- The answer of a step part: the 20 bytes of the step layout, then the written mark (R217). -/
def stepAnswer (slot : Byte) (record : StepRecord) (written : Bool) : List Byte :=
  stepBytes slot record ++ [boolByte written]

end Sys2Proof.Machine
end

