-- ==== Sys2Proof/Machine/Inputs.lean ====
section
/-! DEFINITION. DIO: debounce, the delivery of changes, input configuration, starting levels and part time (chapter Discrete
Inputs, Outputs and the Event Queue), and the event queue's EVENT_READ. -/

namespace Sys2Proof.Machine

/-! ### Time (R102) -/

/-- The part time and the microseconds within it; the microseconds of one millisecond do not run back
(notes/assumptions/5.md). -/
def Dio.now (d : Dio) (us : Fin 1000) : Instant := ⟨d.partTime, max d.subMs us⟩

/-- The microseconds within the millisecond noted. -/
def State.noteTime (us : Fin 1000) (s : State) : State :=
  { s with dio := { s.dio with subMs := max s.dio.subMs us } }

/-- A raw level that began at a moment has stood for a debounce time (R96); part time is taken modulo 2^32. -/
def Instant.stood (start now : Instant) (debounce : Nat) : Bool :=
  decide (debounce * 1000 + start.us.val ≤ (now.ms - start.ms).toNat * 1000 + now.us.val)

/-- The end of a millisecond (R102). -/
def State.partTimeTick (s : State) : State :=
  { s with dio := { s.dio with partTime := s.dio.partTime + 1, subMs := 0 } }

/-! ### Delivery (R98) -/

/-- The delivery of a change of logical level: INPUT when the route is QUEUE, then the consumer (R98). -/
def State.deliverInput (i : Input) (s : State) : State :=
  let r := s.dio.inputs.get i
  let t := if r.queued then s.put (.input i r.asserted) else s
  t.consume i r.asserted

/-- The new raw level of an input is taken: the debounced level takes it, the pending change becomes absent and the change is
delivered (R96). -/
def State.takeLevel (i : Input) (s : State) : State :=
  let r := s.dio.inputs.get i
  (s.setInput i { r with level := !r.level, pendingSince := none }).deliverInput i

/-! ### Debounce (R96) -/

/-- A raw change of an input (R96). -/
def State.rawChange (i : Input) (level : Bool) (us : Fin 1000) (s : State) : State :=
  let t := s.noteTime us
  let r : InputRec := { t.dio.inputs.get i with raw := level }
  if level = r.level then t.setInput i { r with pendingSince := none }
  else
    let u := t.setInput i { r with pendingSince := some (r.pendingSince.getD (s.dio.now us)) }
    if r.debounce = 0 then u.takeLevel i else u

/-- The end of a debounce: taken when the pending change has stood for the debounce time (R96). -/
def State.debounceEnd (i : Input) (us : Fin 1000) (s : State) : State :=
  let t := s.noteTime us
  let r := t.dio.inputs.get i
  match r.pendingSince with
  | none => t
  | some start => if start.stood (s.dio.now us) r.debounce then t.takeLevel i else t

/-! ### INPUT_CONFIG (R97, R99) -/

/-- The debounce time in force for a written value (R97). -/
def debounceInForce (i : Input) (written : Nat) : Nat :=
  match i with
  | .estop => 1
  | .guard => min written 5
  | .limitUp => min written 5
  | .limitDown => min written 5
  | .gripUpper => written
  | .gripLower => written
  | .extASeat => written
  | .extBSeat => written
  | .driveReady => written
  | .aux => written

/-- The moment of an acceptance of INPUT_CONFIG. The command carries no time within the millisecond, so the microseconds are a
free value not before those noted (notes/assumptions/5.md). -/
def Dio.configTime (d : Dio) : Instant := d.now (Config.timeOfConfig d.configs)

/-- A pending change that has already stood for the debounce time now in force is taken at the acceptance (R99). -/
def State.takeDue (i : Input) (now : Instant) (s : State) : State :=
  let r := s.dio.inputs.get i
  match r.pendingSince with
  | none => s
  | some start => if start.stood now r.debounce then s.takeLevel i else s

/-- The model's count of the acceptances of INPUT_CONFIG (notes/assumptions/5.md). -/
def State.countConfig (s : State) : State := { s with dio := { s.dio with configs := s.dio.configs + 1 } }

/-- An accepted INPUT_CONFIG (R99): the configuration is written, a change of polarity is delivered, then a pending change that
is due is taken. -/
def State.configureInput (i : Input) (inverted : Bool) (written : Nat) (queued : Bool) (s : State) : State :=
  let r := s.dio.inputs.get i
  let t := s.setInput i { r with inverted := inverted, debounce := debounceInForce i written, queued := queued }
  let u := if inverted ≠ r.inverted then t.deliverInput i else t
  (u.takeDue i s.dio.configTime).countConfig

/-- INPUT_CONFIG (R99). Every debounce byte is in 0..255. -/
def State.inputConfig (index polarity debounce route : Byte) (s : State) : State × Answer :=
  if s.dec.chain = .closed then (s, .no .chain)
  else
    match inputOf index, flagOf polarity, flagOf route with
    | some i, some inverted, some queued =>
      if i = .estop ∧ inverted = true then (s, .no .badValue)
      else (s.configureInput i inverted debounce.toNat queued, .ack [])
    | _, _, _ => (s, .no .badValue)

/-! ### Starting levels (R100) -/

/-- An input at a reset: the debounced level is the raw level, and no change is pending (R100). -/
def InputRec.settled (r : InputRec) : InputRec := { r with level := r.raw, pendingSince := none }

/-- Every input at RESTART: the configuration kept (R100). -/
def Inputs.settled (v : Inputs) : Inputs where
  estop := v.estop.settled
  guard := v.guard.settled
  limitUp := v.limitUp.settled
  limitDown := v.limitDown.settled
  gripUpper := v.gripUpper.settled
  gripLower := v.gripLower.settled
  extASeat := v.extASeat.settled
  extBSeat := v.extBSeat.settled
  driveReady := v.driveReady.settled
  aux := v.aux.settled

/-- An input after power-on reset with its raw level (R100). -/
def InputRec.powerOn (i : Input) (raw : Bool) : InputRec :=
  { inverted := false, debounce := debounceInForce i 10, queued := false, level := raw, pendingSince := none, raw := raw }

/-- Every input after power-on reset; bit n of the levels is the raw level of input n (R100). -/
def Inputs.powerOn (levels : BitVec 10) : Inputs where
  estop := .powerOn .estop (levels.getLsbD 0)
  guard := .powerOn .guard (levels.getLsbD 1)
  limitUp := .powerOn .limitUp (levels.getLsbD 2)
  limitDown := .powerOn .limitDown (levels.getLsbD 3)
  gripUpper := .powerOn .gripUpper (levels.getLsbD 4)
  gripLower := .powerOn .gripLower (levels.getLsbD 5)
  extASeat := .powerOn .extASeat (levels.getLsbD 6)
  extBSeat := .powerOn .extBSeat (levels.getLsbD 7)
  driveReady := .powerOn .driveReady (levels.getLsbD 8)
  aux := .powerOn .aux (levels.getLsbD 9)

/-! ### EVENT_READ (R106) -/

/-- EVENT_READ: the oldest entries leave the queue, and the overflow mark is noted and cleared (R106, R221). -/
def State.eventRead (n : Byte) (s : State) : State × Answer :=
  if 8 < n.toNat then (s, .no .badValue)
  else
    let taken := s.evq.entries.take n.toNat
    ({ s with evq := { entries := s.evq.entries.drop n.toNat, overflow := false } },
     .ack (boolByte s.evq.overflow :: natByte taken.length :: taken.flatMap Entry.bytes))

end Sys2Proof.Machine
end

