-- ==== Sys2Proof/Machine/Profiles.lean ====
section
/-! DEFINITION. The profile copies of TSQ: writing the staged copy, validation, commit and read (chapter Test Profiles). -/

namespace Sys2Proof.Machine

/-! ### Field references (R135) -/

/-- A check of a numbered field: its number and whether it passes. -/
structure FieldCheck where
  field : Nat
  ok : Bool
  deriving DecidableEq, Repr

/-- The number of the first field of a list that fails its check. -/
def firstFailure (checks : List FieldCheck) : Option Nat :=
  match checks with
  | [] => none
  | c :: rest => if c.ok then firstFailure rest else some c.field

/-- The part code SPEC (R218). -/
def specPart : Nat := 0xFF

/-- The detail bytes of a field reference: the part, then the field number (R135, R212). -/
def fieldReference (part field : Nat) : Half := natByte part ++ natByte field

/-! ### Forming a copy (R128, R129, R133) -/

/-- The spec part of the new profile, with every default resolved (R128). -/
def StagedSpec.resolve (frameOverload : Int) (f : StagedSpec) : ProfileSpec where
  s0 := f.s0.toInt
  l0 := f.l0.toInt
  lc := f.lc.toInt
  eNominal := f.eNominal.toInt
  specimen := f.specimen
  cast := f.cast
  plan := (planOf f.plan).getD .ext
  fitLower := f.fitLower.toInt
  fitUpper := f.fitUpper.toInt
  offset := (f.offset.map fun v => (v.toNat : Int)).getD 2000
  yieldDrop := (f.yieldDrop.map fun v => (v.toNat : Int)).getD 50
  transient := (f.transient.map fun v => (v.toNat : Int)).getD 100
  yieldLimit := (f.yieldLimit.map fun v => v.toInt).getD 30000
  yieldEnd := (f.yieldEnd.map fun v => v.toInt).getD 60000
  armLoad := f.armLoad.toInt
  breakStep := (f.breakStep.map fun v => (v.toNat : Int)).getD 20
  breakFloor := (f.breakFloor.map fun v => (v.toNat : Int)).getD 10
  testOverload := (f.testOverload.map fun v => v.toInt).getD frameOverload
  returnAfter := (flagOf f.returnAfter).getD false
  returnSpeed := f.returnSpeed.toInt
  traceBase := f.traceBase.toNat

/-- A step of the new profile: HOLD holds rate 0 (R129). -/
def resolveStep (r : StepRecord) : ProfileStep :=
  let mode := (stepModeOf r.mode).getD .hold
  { mode := mode
    rate := if mode = .hold then 0 else r.rate.toInt
    transition := r.transition.toNat
    count := r.count.toNat
    cond1 := ⟨r.quantity1, r.threshold1⟩
    cond2 := ⟨r.quantity2, r.threshold2⟩
    release := (flagOf r.release).getD false }

/-- The slots that a step count takes into a copy. -/
def StagedCopy.taken (c : StagedCopy) (count : Nat) : List StagedStep := c.slots.toList.take count

/-- The new profile formed from the staged copy (R133). -/
def StagedCopy.form (frameOverload : Int) (f : StagedSpec) (c : StagedCopy) : Profile where
  spec := f.resolve frameOverload
  steps := (c.taken f.stepCount.toNat).map fun k => resolveStep k.record

/-! ### Validation (R134) -/

/-- An absent field with a default does not fail (R134). -/
def absentOr {α : Type} (check : α → Bool) : Option α → Bool
  | none => true
  | some v => check v

/-- Every character of a text is 0x20 to 0x7E, and the text is not too long (section 7.2). -/
def textValid (size : Nat) (t : List Byte) : Bool :=
  decide (t.length ≤ size) && t.all fun c => decide (0x20 ≤ c.toNat) && decide (c.toNat ≤ 0x7E)

/-- The checks of the spec fields 1 to 22 (section 7.2, R134). -/
def StagedSpec.checks (frameOverload : Int) (f : StagedSpec) : List FieldCheck :=
  [⟨1, inRange 1 10000000 f.s0.toInt⟩,
   ⟨2, inRange 10000 200000 f.l0.toInt⟩,
   ⟨3, inRange 10000 2000000 f.lc.toInt⟩,
   ⟨4, inRange 50000 400000 f.eNominal.toInt⟩,
   ⟨5, textValid 16 f.specimen⟩,
   ⟨6, textValid 12 f.cast⟩,
   ⟨7, (planOf f.plan).isSome⟩,
   ⟨8, inRange 0 1999999 f.fitLower.toInt⟩,
   ⟨9, inRange 1 2000000 f.fitUpper.toInt && decide (f.fitLower.toInt < f.fitUpper.toInt)⟩,
   ⟨10, absentOr (fun v => inRange 100 20000 v.toNat) f.offset⟩,
   ⟨11, absentOr (fun v => inRange 10 1000 v.toNat) f.yieldDrop⟩,
   ⟨12, absentOr (fun v => inRange 0 1000 v.toNat) f.transient⟩,
   ⟨13, absentOr (fun v => inRange 1000 100000 v.toInt) f.yieldLimit⟩,
   ⟨14, absentOr (fun v => inRange 1000 200000 v.toInt) f.yieldEnd⟩,
   ⟨15, inRange 1 8000000 f.armLoad.toInt⟩,
   ⟨16, absentOr (fun v => inRange 1 90 v.toNat) f.breakStep⟩,
   ⟨17, absentOr (fun v => inRange 1 90 v.toNat) f.breakFloor⟩,
   ⟨18, absentOr (fun v => inRange 1 frameOverload v.toInt) f.testOverload⟩,
   ⟨19, (flagOf f.returnAfter).isSome⟩,
   ⟨20, inRange 1 600000 f.returnSpeed.toInt⟩,
   ⟨21, (baseOf f.traceBase).isSome⟩,
   ⟨22, inRange 1 12 f.stepCount.toNat⟩]

/-- The rate range of a mode; the rate of HOLD is not checked (R129). -/
def rateValid (mode : Byte) (rate : Int) : Bool :=
  match stepModeOf mode with
  | some .posRate => inRange 1 600000 rate
  | some .strainRate => inRange 1 100000 rate
  | some .stressRate => inRange 1 500000 rate
  | some .hold => true
  | none => false

/-- One of the seven end quantities (R130, R218). -/
def quantityValid (q : Byte) : Bool := 1 ≤ q.toNat && q.toNat ≤ 7

/-- The threshold range of a quantity (R130). -/
def thresholdValid (q : Byte) (t : Word) : Bool :=
  match q.toNat with
  | 1 => inRange (-stressLimit) stressLimit t.toInt
  | 2 => inRange (-stressLimit) stressLimit t.toInt
  | 3 => inRange (-loadLimit) loadLimit t.toInt
  | 4 => true
  | 5 => true
  | 6 => true
  | 7 => inRange 1 99 t.toInt
  | _ => false

/-- The checks of a step slot, fields 0 to 9 (section 7.3, R134); conditions beyond the count are not checked (R130). -/
def StagedStep.checks (k : StagedStep) : List FieldCheck :=
  let r := k.record
  [⟨0, k.written⟩,
   ⟨1, (stepModeOf r.mode).isSome⟩,
   ⟨2, rateValid r.mode r.rate.toInt⟩,
   ⟨3, decide (r.transition.toNat ≤ 5000)⟩,
   ⟨5, decide (r.count.toNat < 1) || quantityValid r.quantity1⟩,
   ⟨6, decide (r.count.toNat < 1) || thresholdValid r.quantity1 r.threshold1⟩,
   ⟨7, decide (r.count.toNat < 2) || quantityValid r.quantity2⟩,
   ⟨8, decide (r.count.toNat < 2) || thresholdValid r.quantity2 r.threshold2⟩,
   ⟨9, (flagOf r.release).isSome⟩]

/-- The first failing field of a list of steps numbered from an index, as part and field. -/
def firstStepFailure : Nat → List (List FieldCheck) → Option (Nat × Nat)
  | _, [] => none
  | i, checks :: rest =>
    match firstFailure checks with
    | some f => some (i, f)
    | none => firstStepFailure (i + 1) rest

/-- Validation: the first failure found, as part and field (R134). -/
def StagedCopy.validate (frameOverload : Int) (f : StagedSpec) (c : StagedCopy) : Option (Nat × Nat) :=
  match firstFailure (f.checks frameOverload) with
  | some n => some (specPart, n)
  | none => firstStepFailure 0 ((c.taken f.stepCount.toNat).map StagedStep.checks)

/-! ### The locked part (R137) -/

/-- The comparison of the spec fields 1 to 21 (R137). -/
def ProfileSpec.sameChecks (new old : ProfileSpec) : List FieldCheck :=
  [⟨1, new.s0 == old.s0⟩, ⟨2, new.l0 == old.l0⟩, ⟨3, new.lc == old.lc⟩, ⟨4, new.eNominal == old.eNominal⟩,
   ⟨5, new.specimen == old.specimen⟩, ⟨6, new.cast == old.cast⟩, ⟨7, new.plan == old.plan⟩,
   ⟨8, new.fitLower == old.fitLower⟩, ⟨9, new.fitUpper == old.fitUpper⟩, ⟨10, new.offset == old.offset⟩,
   ⟨11, new.yieldDrop == old.yieldDrop⟩, ⟨12, new.transient == old.transient⟩, ⟨13, new.yieldLimit == old.yieldLimit⟩,
   ⟨14, new.yieldEnd == old.yieldEnd⟩, ⟨15, new.armLoad == old.armLoad⟩, ⟨16, new.breakStep == old.breakStep⟩,
   ⟨17, new.breakFloor == old.breakFloor⟩, ⟨18, new.testOverload == old.testOverload⟩,
   ⟨19, new.returnAfter == old.returnAfter⟩, ⟨20, new.returnSpeed == old.returnSpeed⟩,
   ⟨21, new.traceBase == old.traceBase⟩]

/-- The comparison of the nine fields of a step (R137). -/
def ProfileStep.sameChecks (new old : ProfileStep) : List FieldCheck :=
  [⟨1, new.mode == old.mode⟩, ⟨2, new.rate == old.rate⟩, ⟨3, new.transition == old.transition⟩,
   ⟨4, new.count == old.count⟩, ⟨5, new.cond1.quantity == old.cond1.quantity⟩,
   ⟨6, new.cond1.threshold == old.cond1.threshold⟩, ⟨7, new.cond2.quantity == old.cond2.quantity⟩,
   ⟨8, new.cond2.threshold == old.cond2.threshold⟩, ⟨9, new.release == old.release⟩]

/-- The first difference of a new profile from the active copy in its locked part, k being the current step (R137). -/
def Profile.lockedDifference (new old : Profile) (k : Nat) : Option (Nat × Nat) :=
  match firstFailure (new.spec.sameChecks old.spec) with
  | some n => some (specPart, n)
  | none =>
    if new.steps.length < k + 1 then some (specPart, 22)
    else firstStepFailure 0 (List.zipWith ProfileStep.sameChecks (new.steps.take (k + 1)) (old.steps.take (k + 1)))

/-! ### PROFILE_SPEC_WRITE and PROFILE_STEP_WRITE (R131, R132) -/

/-- Every written mark cleared, the records kept (R131). -/
def clearMarks (slots : Vector StagedStep 12) : Vector StagedStep 12 := slots.map fun k => { k with written := false }

/-- The staged copy after a spec write: the marks are kept when the step count is the one held before (R131). -/
def StagedCopy.writeSpec (f : StagedSpec) (c : StagedCopy) : StagedCopy :=
  match c.spec with
  | some g => { spec := some f, slots := if g.stepCount = f.stepCount then c.slots else clearMarks c.slots }
  | none => { spec := some f, slots := clearMarks c.slots }

/-- PROFILE_SPEC_WRITE (R131). -/
def State.profileSpecWrite (f : SpecFields) (s : State) : State × Answer :=
  if 16 < f.specimenLength.toNat ∨ 12 < f.castLength.toNat then (s, .no .badValue)
  else ({ s with tsq := { s.tsq with staged := s.tsq.staged.writeSpec (stagedSpecOf f) } }, .ack [])

/-- PROFILE_STEP_WRITE (R132). -/
def State.profileStepWrite (slot : Byte) (r : StepRecord) (s : State) : State × Answer :=
  if h : slot.toNat < 12 then
    if 2 < r.count.toNat then (s, .no .badValue)
    else
      let slots := s.tsq.staged.slots.set slot.toNat ⟨r, true⟩ h
      ({ s with tsq := { s.tsq with staged := { s.tsq.staged with slots := slots } } }, .ack [])
  else (s, .no .badValue)

/-! ### PROFILE_COMMIT (R133, R136, R137) -/

/-- A new profile that passed every check in IDLE or ENDED becomes active at once (R136). -/
def State.applyNow (p : Profile) (s : State) : State :=
  State.put (.profileApplied .now) { s with tsq := { s.tsq with active := some p } }

/-- A new profile that passed every check in RUNNING or HOLDING becomes pending (R137). -/
def State.holdPending (p : Profile) (s : State) : State := { s with tsq := { s.tsq with pendingCopy := some p } }

/-- The first difference in the locked part during a test (R133, R137). -/
def State.lockedFault (p : Profile) (s : State) : Option (Nat × Nat) :=
  match s.tsq.active with
  | none => none
  | some old => p.lockedDifference old (s.tsq.step.getD 0)

/-- PROFILE_COMMIT of a written spec part, in a state other than RETURNING (R133). -/
def State.commitSpec (f : StagedSpec) (s : State) : State × Answer :=
  match s.tsq.staged.validate s.xhs.config.frameOverload f with
  | some r => (s, .refuse .badValue (fieldReference r.1 r.2))
  | none =>
    let p := s.tsq.staged.form s.xhs.config.frameOverload f
    if s.tsq.state.sampling then
      match s.lockedFault p with
      | some r => (s, .refuse .locked (fieldReference r.1 r.2))
      | none => (s.holdPending p, .ack [])
    else (s.applyNow p, .ack [])

/-- PROFILE_COMMIT (R133). -/
def State.profileCommit (s : State) : State × Answer :=
  if s.tsq.state = .returning then (s, .no .state)
  else
    match s.tsq.staged.spec with
    | none => (s, .no .noProfile)
    | some f => s.commitSpec f

/-! ### PROFILE_READ (R141) -/

/-- PROFILE_READ of the staged copy (R141). -/
def StagedCopy.readPart (part : Byte) (c : StagedCopy) : Answer :=
  match c.spec with
  | none => .no .noProfile
  | some f =>
    if part = 0xFF then .ack (specBytes f.fields)
    else
      match c.slots.toList[part.toNat]? with
      | some k => .ack (stepAnswer part k.record k.written)
      | none => .no .badValue

/-- PROFILE_READ of a copy in the form of the active copy (R141). -/
def Profile.readPart (part : Byte) (p : Profile) : Answer :=
  if part = 0xFF then .ack (specBytes p.fields)
  else
    match p.steps[part.toNat]? with
    | some k => .ack (stepAnswer part k.record true)
    | none => .no .badValue

/-- The answer of PROFILE_READ (R141): the copy code, the part code, the copy, the step count. -/
def State.profileAnswer (copy part : Byte) (s : State) : Answer :=
  match copyOf copy with
  | none => .no .badValue
  | some name =>
    if part ≠ 0xFF ∧ 11 < part.toNat then .no .badValue
    else
      match name with
      | .staged => s.tsq.staged.readPart part
      | .active => ((s.tsq.active).map (Profile.readPart part)).getD (.no .noProfile)
      | .pending => ((s.tsq.pendingCopy).map (Profile.readPart part)).getD (.no .noProfile)

end Sys2Proof.Machine
end

