-- ==== Sys2Proof/Machine/LoadChannel.lean ====
section
/-! DEFINITION. LDC: the load result of a conversion, range switches, the down count, tare and shunt check (chapter Load
Channel). -/

namespace Sys2Proof.Machine

/-! ### Tables (R3, R4) -/

/-- The segment that a raw code uses (R4): the first segment whose upper end is above the code, or the last. -/
def tableSegment (p q : CalPoint) : List CalPoint → Int → CalPoint × CalPoint
  | [], _ => (p, q)
  | r :: rest, c => if c < q.code then (p, q) else tableSegment q r rest c

/-- Linear interpolation along a segment, extended beyond its ends (R4). -/
def alongSegment (p q : CalPoint) (c : Int) : Int :=
  p.load + roundDiv ((c - p.code) * (q.load - p.load)) (q.code - p.code)

/-- The gross load of a raw code; none for a table of fewer than two points, which R3 excludes unless it is empty. -/
def grossLoad (t : List CalPoint) (c : Int) : Option Int :=
  match t with
  | p :: q :: rest => some (alongSegment (tableSegment p q rest c).1 (tableSegment p q rest c).2 c)
  | _ => none

/-- The gross load of a raw code in the current range (R3, R4). -/
def State.gross (c : Int) (s : State) : Option Int := grossLoad (s.ldc.table s.ldc.range) c

/-! ### Abandoning tare and shunt check (R17, R22) -/

/-- A tare in progress is abandoned: the tare keeps its value (R17). -/
def State.abandonTare (s : State) : State :=
  match s.ldc.tareProgress with
  | none => s
  | some _ =>
    State.put (.tareDone false s.ldc.tare) { s with ldc := { s.ldc with tareProgress := none } }

/-- A shunt check in progress is abandoned; with SHUNT_EN on, the settle count becomes 8 (R22). The range is the check's. -/
def State.abandonShunt (range : LoadRange) (s : State) : State :=
  match s.ldc.shunt with
  | none => s
  | some _ =>
    let settle := if s.ldc.shuntEn then 8 else s.ldc.settle
    State.put (.shuntDone .abandoned range none)
      { s with ldc := { s.ldc with shunt := none, shuntEn := false, settle := settle } }

/-! ### Range switches (R10 to R12) -/

/-- A range switch (R12): gain and range, settle count 2, down count 0, RANGE, then tare and shunt check abandoned. The range
of an abandoned check is the range it started in. -/
def State.switchRange (r : LoadRange) (s : State) : State :=
  let t := State.put (.range r) { s with ldc := { s.ldc with range := r, settle := 2, down := 0 } }
  t.abandonTare.abandonShunt s.ldc.range

/-! ### The class and the result of a conversion (R2, R5 to R8) -/

/-- The classes of R2. -/
inductive LoadClass where
  | settling | shuntHeld | saturated | noTable | ordinary
  deriving DecidableEq, Repr

/-- The load result of a conversion (R2). -/
structure LoadResult where
  load : Option Int
  held : Bool
  clamped : Bool
  deriving DecidableEq, Repr

/-- A shunt check is in a phase after its baseline (R2, R20). -/
def Ldc.shuntHolds (l : Ldc) : Bool :=
  match l.shunt with
  | some k => k.phase != .baseline
  | none => false

/-- The class of a conversion: the first line of the table of R2 that applies. -/
def State.loadClass (c : Int) (s : State) : LoadClass :=
  if 0 < s.ldc.settle then .settling
  else if s.ldc.shuntHolds then .shuntHeld
  else if saturatedCode c then .saturated
  else if s.rangeValid then .ordinary
  else .noTable

/-- FINE under AUTO, where a saturated code is held and switches up (R8, R10). -/
def Ldc.fineAuto (l : Ldc) : Bool := l.mode == .auto && l.range == .fine

/-- The held result: the last good net load, or no load, with HELD set (R6, R8, R20). CLAMPED is clear: R6 says so of a
settling conversion; for a saturated one in FINE under AUTO (R8) and for a shunt-held one (R20, R22) the spec states HELD
alone, and that CLAMPED is clear there too, even when the last good net load was clamped, is the model's choice (DESIGN
CHOICE, notes/assumptions/25.md). -/
def Ldc.heldResult (l : Ldc) : LoadResult := { load := l.lastGood, held := true, clamped := false }

/-- The net load of a gross load (R5). -/
def Ldc.netResult (l : Ldc) (gross : Int) : LoadResult :=
  { load := some (clampLoad (gross - l.tare)), held := false,
    clamped := decide (clampLoad (gross - l.tare) ≠ gross - l.tare) }

/-- The result of a saturated conversion (R8): held in FINE under AUTO; otherwise the limit of its sign, clamped, or no load
when the current range is INVALID. -/
def State.saturatedResult (c : Int) (s : State) : LoadResult :=
  if s.ldc.fineAuto then s.ldc.heldResult
  else if s.rangeValid then { load := some (if 0 < c then loadLimit else -loadLimit), held := false, clamped := true }
  else { load := none, held := false, clamped := false }

/-- The result of a conversion of a class (R2). -/
def State.loadResult (k : LoadClass) (c : Int) (s : State) : LoadResult :=
  match k with
  | .settling => s.ldc.heldResult
  | .shuntHeld => s.ldc.heldResult
  | .saturated => s.saturatedResult c
  | .noTable => { load := none, held := false, clamped := false }
  | .ordinary =>
    match s.gross c with
    | some g => s.ldc.netResult g
    | none => { load := none, held := false, clamped := false }

/-- The overload limit, chosen by the test state at the conversion (R23). -/
def State.overloadLimit (s : State) : Int :=
  match s.testing, s.tsq.active with
  | true, some p => p.spec.testOverload
  | _, _ => s.xhs.config.frameOverload

/-- The overload report or test of a conversion (R8, R22, R23, R120): a saturated code outside FINE under AUTO reports, settling
conversions apart; any other non-held result with a load is tested against the limit. -/
def State.testOverload (k : LoadClass) (c : Int) (r : LoadResult) (s : State) : State :=
  if k ≠ .settling ∧ saturatedCode c then (if s.ldc.fineAuto then s else s.reportOverload)
  else
    match r.held, r.load with
    | false, some load => if s.overloadLimit < mag load then s.reportOverload else s.noOverload
    | _, _ => s

/-- The items of LDC that the result itself changes (R2, R6, R7): the settle count of a settling conversion, and the last good
net load, which a conversion without a table makes absent. -/
def Ldc.afterResult (k : LoadClass) (r : LoadResult) (l : Ldc) : Ldc :=
  let settle := if k = .settling then l.settle - 1 else l.settle
  let good :=
    if k = .noTable then none
    else
      match r.held, r.load with
      | false, some load => some load
      | _, _ => l.lastGood
  { l with settle := settle, lastGood := good }

/-! ### After the result (R2) -/

/-- The switch at the end of settling after a reset with mode FINE (R6), or the up-switch (R10), whose conditions are those of
the conversion's arrival. -/
def State.conversionSwitch (k : LoadClass) (c : Int) (s : State) : State :=
  if k = .settling then
    (if s.ldc.settle = 0 ∧ s.ldc.mode = .fine ∧ s.ldc.range = .wide then s.switchRange .fine else s)
  else if s.ldc.fineAuto ∧ 7549746 ≤ mag c then s.switchRange .wide
  else s

/-- A code of at most 7.5 % of full code (R11). -/
def lowCode (c : Int) : Bool := decide (mag c ≤ 629145)

/-- The down count (R11): settling conversions leave it; the cases of R11 and R7 make it 0; a low ordinary conversion in WIDE
under AUTO adds 1, and the 50th switches down. `testing` and `busy` are those at the conversion's arrival. -/
def State.countDown (k : LoadClass) (c : Int) (testing busy : Bool) (s : State) : State :=
  if k = .settling then s
  else if testing || busy || s.ldc.fineTable.isEmpty || k != .ordinary || !lowCode c then
    { s with ldc := { s.ldc with down := 0 } }
  else if s.ldc.mode = .auto ∧ s.ldc.range = .wide then
    if 50 ≤ s.ldc.down + 1 then s.switchRange .fine
    else { s with ldc := { s.ldc with down := s.ldc.down + 1 } }
  else s

/-- A tare in progress takes an ordinary conversion that gives a load (R16). -/
def State.advanceTare (k : LoadClass) (c : Int) (s : State) : State :=
  match k, s.ldc.tareProgress, s.gross c with
  | .ordinary, some t, some g =>
    if t.taken + 1 = 16 then
      let tare := clampLoad (roundDiv (t.sum + g) 16)
      State.put (.tareDone true tare) { s with ldc := { s.ldc with tare := tare, tareProgress := none } }
    else { s with ldc := { s.ldc with tareProgress := some ⟨t.taken + 1, t.sum + g⟩ } }
  | _, _, _ => s

/-- The deviation of a shunt check (R21). -/
def shuntDeviation (k : ShuntProgress) (p : ShuntParams) : Int := roundDiv (k.sum - k.baseline) 16 - p.expected

/-- The end of a shunt check (R21). -/
def State.finishShunt (k : ShuntProgress) (s : State) : State :=
  let p := s.ldc.shuntParams s.ldc.range
  let d := shuntDeviation k p
  let outcome : ShuntOutcome := if mag d ≤ p.tolerance then .pass else .fail
  State.put (.shuntDone outcome s.ldc.range (some d)) { s with ldc := { s.ldc with shunt := none } }

/-- The shunt progress and SHUNT_EN set. -/
def State.setShunt (k : ShuntProgress) (en : Bool) (s : State) : State :=
  { s with ldc := { s.ldc with shunt := some k, shuntEn := en } }

/-- A shunt check in progress takes a conversion (R20): ordinary ones in BASELINE, every one after it. -/
def State.advanceShunt (k : LoadClass) (c : Int) (s : State) : State :=
  match s.ldc.shunt with
  | none => s
  | some p =>
    match p.phase with
    | .baseline =>
      match k, s.gross c with
      | .ordinary, some g =>
        if p.taken + 1 = 16 then s.setShunt ⟨.shuntSettle, 0, p.baseline + g, p.sum⟩ true
        else s.setShunt { p with taken := p.taken + 1, baseline := p.baseline + g } s.ldc.shuntEn
      | _, _ => s
    | .shuntSettle =>
      if p.taken + 1 = 8 then s.setShunt { p with phase := .shuntMeasure, taken := 0 } s.ldc.shuntEn
      else s.setShunt { p with taken := p.taken + 1 } s.ldc.shuntEn
    | .shuntMeasure =>
      let sum := p.sum + (s.gross c).getD 0
      if p.taken + 1 = 16 then s.setShunt { p with phase := .releaseSettle, taken := 0, sum := sum } false
      else s.setShunt { p with taken := p.taken + 1, sum := sum } s.ldc.shuntEn
    | .releaseSettle =>
      if p.taken + 1 = 8 then s.finishShunt p else s.setShunt { p with taken := p.taken + 1 } s.ldc.shuntEn

/-- Tare and shunt check after the result, the switch and the down count: a saturated code that is not settling abandons them
(R8, R17, R22), any other conversion advances them. -/
def State.advanceProgress (k : LoadClass) (c : Int) (s : State) : State :=
  if k ≠ .settling ∧ saturatedCode c then s.abandonTare.abandonShunt s.ldc.range
  else (s.advanceTare k c).advanceShunt k c

/-- LDC's work at a load conversion, in the order of R2: the result with its overload report, the range switch, the down
count, tare and shunt check. -/
def State.convertLoad (c : Int) (s : State) : State × LoadResult :=
  let k := s.loadClass c
  let r := s.loadResult k c
  let t := State.testOverload k c r { s with ldc := s.ldc.afterResult k r }
  let u := (t.conversionSwitch k c).countDown k c s.testing s.ldc.busy
  (u.advanceProgress k c, r)

/-! ### Halt and reset (R22, R25) -/

/-- A halt abandons a shunt check in progress (R22). -/
def State.haltLoad (s : State) : State := s.abandonShunt s.ldc.range

/-- LDC at RESTART (R25). -/
def Ldc.restarted (l : Ldc) : Ldc :=
  { l with range := .wide, tareProgress := none, shunt := none, shuntEn := false, tare := 0, down := 0, lastGood := none,
           settle := if l.shuntEn then 8 else 2 }

end Sys2Proof.Machine
end

