-- ==== Sys2Proof/Machine/Trace.lean ====
section
/-! DEFINITION. TRB: which samples become trace records, the buffer, the decimation factor, and the removal of sent records
(chapter Trace Records). -/

namespace Sys2Proof.Machine

/-- The trace buffer holds at most 512 records (R193). -/
def traceCapacity : Nat := 512

/-- A record is due: the three conditions of R192. R192 also says that no record is made from the wrap of the index to the end
of the test; in a second cycle of the index, with D smaller than before, the third condition alone lets one be due, and that
it is then due is the model's choice (DESIGN CHOICE, notes/assumptions/26.md). -/
def State.recordDue (m : Sample) (s : State) : Bool :=
  s.trb.streaming && m.index.toNat % s.trb.factor == 0 &&
  (!s.testing ||
    match s.trb.lastIndex with
    | none => true
    | some i => decide (i.toNat < m.index.toNat))

/-- After a store that leaves a fill of 384 or more with D below 64, D doubles and DECIM is put (R194). -/
def State.doubleFactor (s : State) : State :=
  if 384 ≤ s.trb.buffer.length ∧ s.trb.factor < 64 then
    State.put (.decim (s.trb.factor * 2)) { s with trb := { s.trb with factor := s.trb.factor * 2 } }
  else s

/-- A due record is stored, or at a full buffer discarded with the gap mark set (R193). -/
def State.storeRecord (m : Sample) (s : State) : State :=
  if s.trb.buffer.length < traceCapacity then
    State.doubleFactor
      { s with trb := { s.trb with buffer := s.trb.buffer ++ [⟨m, s.trb.gap, s.trb.factor⟩], gap := false } }
  else { s with trb := { s.trb with gap := true } }

/-- In a test state a record made sets the last test index (R192). -/
def State.noteIndex (m : Sample) (s : State) : State :=
  if s.testing then { s with trb := { s.trb with lastIndex := some m.index } } else s

/-- TRB takes a delivered sample (R192). -/
def State.traceTake (m : Sample) (s : State) : State :=
  if s.recordDue m then (s.noteIndex m).storeRecord m else s

/-- After a removal that leaves a fill of 64 or less with D above the base, D halves and DECIM is put (R196). -/
def State.halveFactor (s : State) : State :=
  if s.trb.buffer.length ≤ 64 ∧ s.trb.base < s.trb.factor then
    State.put (.decim (s.trb.factor / 2)) { s with trb := { s.trb with factor := s.trb.factor / 2 } }
  else s

/-- LNK reports that the frame of the record in flight has completed (R195). -/
def State.traceSent (s : State) : State :=
  match s.trb.inFlight with
  | .no => s
  | .oldest => State.halveFactor { s with trb := { s.trb with buffer := s.trb.buffer.tail, inFlight := .no } }
  | .discarded => { s with trb := { s.trb with inFlight := .no } }

/-- TRB at an accepted TEST_START (R199): the buffer emptied, the gap mark clear, base and D the profile's. -/
def Trb.started (t : Trb) (base : Nat) : Trb :=
  { t with buffer := [], gap := false, base := base, factor := base, lastIndex := none,
           inFlight := match t.inFlight with
             | .no => .no
             | .oldest => .discarded
             | .discarded => .discarded }

end Sys2Proof.Machine
end

