-- ==== Sys2Proof/Machine/Sampling.lean ====
section
/-! DEFINITION. The measurement sample: its composition by SMP and its delivery to RES, TSQ and TRB (R49), and what TSQ does
with it: step time, break detection, end conditions, step boundaries (chapter Running a Test). -/

namespace Sys2Proof.Machine

/-! ### Composition (R49 to R55) -/

/-- The stress of a load (R53). -/
def stressOf (p : ProfileSpec) (load : Int) : Int := clampStress (roundDiv (load * 1000) p.s0)

/-- The corrected displacement (R54). -/
def State.correctedDisplacement (load : Option Int) (s : State) : Int :=
  match load with
  | some l => s.position - roundDiv (l * s.xhs.config.compliance) 1000000
  | none => s.position

/-- The step field: the step in force in a test state (R51). -/
def State.sampleStep (s : State) : Option Nat := if s.testing then s.tsq.step else none

/-- The basis of the sample being composed: the elongations of both arms, the corrected displacement and the unclamped strain
(R54, R55). -/
def State.composeBasis (load : Option Int) (s : State) : Basis :=
  let b : Basis :=
    { elongA := s.xtc.armA.lastElong, elongB := s.xtc.armB.lastElong, corrected := s.correctedDisplacement load,
      unclamped := none }
  { b with unclamped :=
      (rawStrain s.tsq.active s.smp.zeroRef b s.smp.source).map (· + s.smp.sourceOffset) }

/-- The sample being composed (R51 to R55). -/
def State.composeSample (r : LoadResult) (b : Basis) (s : State) : Sample :=
  { index := s.smp.index
    position := s.position
    load := r.load
    stress := match s.tsq.active, r.load with
      | some p, some l => some (stressOf p.spec l)
      | _, _ => none
    strain := b.unclamped.map clampStress
    source := s.smp.source
    step := s.sampleStep
    held := r.held
    clamped := r.clamped
    handover := s.smp.handoverMark
    forced := s.smp.forcedMark }

/-- The sample stored with its basis, the index advanced, and the change marks cleared (R49 steps 1 to 3, R50, R52). -/
def State.storeSample (m : Sample) (b : Basis) (s : State) : State :=
  { s with smp :=
      { s.smp with last := some ⟨m, b⟩, index := s.smp.index + 1, handoverMark := false, forcedMark := false,
                   composed := s.smp.composed + 1 } }

/-! ### Break detection (R157, R158) -/

/-- The test is armed: Fmax is present and at least the break arm load (R157). -/
def State.armedFmax (s : State) : Option Int :=
  match s.tsq.active, s.res.items.record.fmax with
  | some p, some f => if p.spec.armLoad ≤ f.load then some f.load else none
  | _, _ => none

/-- A break sample: step fall or floor (R158). -/
def isBreak (p : ProfileSpec) (prev load fmax : Int) : Bool :=
  decide (fmax * p.breakStep ≤ (prev - load) * 100) || decide (load * 100 < fmax * p.breakFloor)

/-- Whether a loaded sample is a break sample (R157, R158). -/
def State.breakFoundOn (load : Int) (s : State) : Bool :=
  match s.tsq.active, s.tsq.prevLoaded, s.armedFmax with
  | some p, some prev, some fmax => isBreak p.spec prev.load load fmax
  | _, _, _ => false

/-! ### Breaks (R159, R160) -/

/-- Whether an arm is in a state other than OPEN and FAULT (R159). -/
def ArmState.engaged : ArmState → Bool
  | .opened => false
  | .fault _ => false
  | .seating => true
  | .seated => true
  | .zeroing => true
  | .zeroed => true
  | .excluded _ => true
  | .releasing => true

/-- The protective release of a break (R159 step 3). -/
def State.breakRelease (s : State) : State :=
  if s.xtc.armA.state.engaged || s.xtc.armB.state.engaged then s.releaseStart true true false else s

/-- The entry to RETURNING (R160). -/
def State.enterReturning (speed : Int) (s : State) : State :=
  (s.enterTest .returning).servoReturn s.tsq.startPosition speed

/-- The end or the return after a break (R159 step 6). -/
def State.afterBreak (s : State) : State :=
  match s.tsq.active with
  | some p => if p.spec.returnAfter then s.enterReturning p.spec.returnSpeed else s.enterEnded .break
  | none => s.enterEnded .break

/-- A break sample, in the order of R159. -/
def State.breakDetected (s : State) : State :=
  let fracture := s.tsq.prevLoaded.map (·.index)
  let t := { s with tsq := { s.tsq with breakFound := true, fracture := fracture } }
  let u := (t.servoStop.breakRelease).resBreak fracture
  (u.put (.breakFound (u.tsq.step.getD 0) (fracture.getD 0))).afterBreak

/-! ### End conditions (R130, R150) -/

/-- PAST_FMAX (R130, R150). -/
def pastFmax (p : ProfileSpec) (rec : ResultRecord) (stress : Option Int) (threshold : Int) : Bool :=
  match rec.fmax, rec.rm, stress with
  | some f, some rm, some x => decide (p.armLoad ≤ f.load) && decide (x ≤ roundDiv (rm * (100 - threshold)) 100)
  | _, _, _ => false

/-- A field that the sample carries is at or above a threshold (R130). -/
def atLeast (field : Option Int) (threshold : Int) : Bool :=
  match field with
  | some x => decide (threshold ≤ x)
  | none => false

/-- One end condition on a sample (R130, R150). `found` says whether RES found the first yield figure on this sample. -/
def State.conditionMet (p : ProfileSpec) (m : Sample) (found : Bool) (c : EndCondition) (s : State) : Bool :=
  match c.quantity.toNat with
  | 1 => atLeast m.strain c.threshold.toInt
  | 2 => atLeast m.stress c.threshold.toInt
  | 3 => atLeast m.load c.threshold.toInt
  | 4 => decide (c.threshold.toInt ≤ m.position - s.tsq.startPosition)
  | 5 => decide (c.threshold.toNat ≤ s.tsq.stepTime)
  | 6 => found
  | 7 => pastFmax p s.res.items.record m.stress c.threshold.toInt
  | _ => false

/-- Either of the step's conditions, within its count, is met (R130, R150). -/
def State.stepEnds (m : Sample) (found : Bool) (s : State) : Bool :=
  match s.tsq.active, s.currentStep with
  | some p, some k =>
    (decide (1 ≤ k.count) && s.conditionMet p.spec m found k.cond1) ||
    (decide (2 ≤ k.count) && s.conditionMet p.spec m found k.cond2)
  | _, _ => false

/-! ### Step boundaries (R151, R152) -/

/-- The release of the ending step, when its flag is set (R151 step 1). -/
def State.stepRelease (s : State) : State :=
  match s.currentStep with
  | some k => if k.release then s.releaseStart true true false else s
  | none => s

/-- The next step of the active copy as it now stands, or the end of the test (R151 steps 3 and 4, R152). -/
def State.nextStep (s : State) : State :=
  let n := s.tsq.step.getD 0 + 1
  match s.tsq.active.bind (·.stepAt n) with
  | some k =>
    State.put (.step n) (State.servoBegin k { s with tsq := { s.tsq with step := some n, stepTime := 0 } })
  | none => s.servoStop.enterEnded .lastStep

/-- A step boundary, in the order of R151. -/
def State.stepBoundary (s : State) : State := (s.stepRelease.applyPending .boundary).nextStep

/-! ### TSQ takes a sample (R148) -/

/-- The greatest step time (R149). -/
def stepTimeMax : Nat := 4294967295

/-- A sample delivered in RUNNING adds 1 to the step time (R149). -/
def State.countStep (s : State) : State :=
  { s with tsq := { s.tsq with stepTime := min (s.tsq.stepTime + 1) stepTimeMax } }

/-- The sample's load, when it is a loaded sample of the break detector: not HELD and carrying a load (R157). -/
def Sample.loaded (m : Sample) : Option Int := if m.held then none else m.load

/-- A loaded sample without a break becomes the previous loaded sample (R157). -/
def State.notePrevious (m : Sample) (s : State) : State :=
  match m.loaded with
  | some load => { s with tsq := { s.tsq with prevLoaded := some ⟨m.index, load⟩ } }
  | none => s

/-- Whether the sample is a loaded sample on which a break is found (R157). -/
def State.breaksOn (m : Sample) (s : State) : Bool :=
  match m.loaded with
  | some load => s.breakFoundOn load
  | none => false

/-- A sample delivered in RUNNING (R148). -/
def State.runningTake (m : Sample) (found : Bool) (s : State) : State :=
  let t := s.countStep
  if t.breaksOn m then t.breakDetected
  else
    let u := t.notePrevious m
    if u.stepEnds m found then u.stepBoundary else u

/-- A sample delivered in HOLDING (R148). -/
def State.holdingTake (m : Sample) (s : State) : State :=
  if s.breaksOn m then s.breakDetected else s.notePrevious m

/-- TSQ takes a delivered sample (R148). -/
def State.testTake (m : Sample) (found : Bool) (s : State) : State :=
  match s.tsq.state with
  | .idle => s
  | .running => s.runningTake m found
  | .holding _ => s.holdingTake m
  | .returning => s
  | .ended _ => s

/-! ### Delivery (R49) -/

/-- The first yield figure of the test was found between two states of RES (R181). -/
def foundBetween (before after : Option Word) : Bool := before.isNone && after.isSome

/-- The delivery of a sample: to RES in RUNNING and HOLDING, then to TSQ in a test state, then to TRB (R49). -/
def State.deliver (m : Sample) (s : State) : State :=
  if s.tsq.state.sampling then
    let t := s.resTake m
    (t.testTake m (foundBetween s.res.items.firstYield t.res.items.firstYield)).traceTake m
  else s.traceTake m

/-- SMP composes, stores and delivers the sample of a load result (R49). -/
def State.sampleLoad (r : LoadResult) (s : State) : State :=
  let b := s.composeBasis r.load
  let m := s.composeSample r b
  (s.storeSample m b).deliver m

/-- A load conversion: LDC, then SMP and its consumers (R2, R49). -/
def State.loadConversion (c : Int) (s : State) : State :=
  let t := s.convertLoad c
  t.1.sampleLoad t.2

end Sys2Proof.Machine
end

