-- ==== Sys2Proof/Machine/Servo.lean ====
section
/-! DEFINITION. XHS at its expiries: control laws, rate transitions, escape, clamp, soft limits, the speed word, the tracking
check and the model (chapter Crosshead Servo), and the encoder (R66, R67). -/

namespace Sys2Proof.Machine

/-! ### Demands (R65) -/

/-- The position demand (R65). -/
def Xhs.positionDemand (x : Xhs) : Int := truncDiv x.posAcc positionScale

/-- The model position (R65). -/
def Xhs.modelPosition (x : Xhs) : Int := truncDiv x.modelAcc positionScale

/-- The strain or stress demand of an accumulator (R65). -/
def rateDemand (acc : Int) : Int := truncDiv acc rateScale

/-- The servo period, 500 µs (R72). -/
def servoPeriod : Int := 500

/-! ### Stage 1: the command (R73 to R78, R86, R87) -/

/-- The position law, with the effective rate in force (R73). -/
def Xhs.positionCommand (x : Xhs) : Int :=
  x.effRate + roundDiv (x.config.kpPos * (x.positionDemand - x.position)) 10

/-- One expiry of a rate transition (R77). -/
def Xhs.advanceRate (x : Xhs) : Xhs :=
  match x.transition with
  | none => x
  | some t =>
    let elapsed := t.elapsed + servoPeriod
    if t.time ≤ elapsed then { x with effRate := t.target, transition := none }
    else { x with effRate := t.start + roundDiv ((t.target - t.start) * elapsed) t.time,
                  transition := some { t with elapsed := elapsed } }

/-- The position demand advanced by the effective rate (R65, R73). -/
def Xhs.advancePosition (x : Xhs) : Xhs := { x with posAcc := x.posAcc + x.effRate }

/-- The effective rate of a move or return: the speed with the sign from the demand toward the target (R73, R86). -/
def Xhs.moveRate (x : Xhs) (t : MoveTarget) : Int :=
  if x.positionDemand < t.position then t.speed else if t.position < x.positionDemand then -t.speed else 0

/-- The accumulator after a move's advance: it stops at target × 12,000 (R86). -/
def moveAcc (acc rate goal : Int) : Int :=
  if 0 < rate then (if goal < acc + rate then goal else acc + rate)
  else if rate < 0 then (if acc + rate < goal then goal else acc + rate)
  else acc

/-- The advance of a move or return (R86). -/
def Xhs.advanceMove (x : Xhs) (t : MoveTarget) : Xhs :=
  let rate := x.moveRate t
  { x with effRate := rate, posAcc := moveAcc x.posAcc rate (t.position * positionScale) }

/-- The arrival test of R87. -/
def Xhs.arrived (x : Xhs) (t : MoveTarget) : Bool :=
  decide (x.positionDemand = t.position) && decide (absDiff x.position t.position ≤ 10)

/-- The quantity that a control class follows, of the last sample (R74, R75). -/
def State.lastQuantity (c : ControlClass) (s : State) : Option Int :=
  match c with
  | .position => none
  | .strain => s.smp.last.bind fun l => l.sample.strain
  | .stress => s.smp.last.bind fun l => l.sample.stress

/-- The gain of a control class, and what its product is divided by (R74, R75). -/
def FrameConfig.rateGain (f : FrameConfig) : ControlClass → Int × Int
  | .position => (0, 1)
  | .strain => (f.kStrain, 100)
  | .stress => (f.kStress, 1000)

/-- The strain or stress law on an accumulator that holds a value (R74, R75). -/
def Xhs.rateCommand (x : Xhs) (acc quantity : Int) : Int :=
  let g := x.config.rateGain x.controlClass
  x.velocity + roundDiv (g.1 * (rateDemand acc - quantity)) g.2

/-- An expiry in a STEP of class STRAIN or STRESS (R74 to R76, R78): the state of XHS and the command. -/
def State.rateExpiry (s : State) : Xhs × Int :=
  let x := s.xhs
  let advanced (acc : Int) : Xhs :=
    let y := x.advanceRate
    { y with rateAcc := .value (acc + y.effRate) }
  match x.rateAcc, s.lastQuantity x.controlClass with
  | .value acc, some q =>
    let y := advanced acc
    (y, y.rateCommand (acc + y.effRate) q)
  | .value acc, none => (advanced acc, x.velocity)
  | .waiting since, some q =>
    if since < s.smp.composed then
      let acc := rateScale * q
      let y := advanced acc
      (y, y.rateCommand (acc + y.effRate) q)
    else (x, x.velocity)
  | .waiting _, none => (x, x.velocity)

/-- The command of STILL: the position law at rate 0 (R73). -/
def State.stillExpiry (s : State) : State × Int :=
  let x := { s.xhs with effRate := 0 }
  ({ s with xhs := x }, x.positionCommand)

/-- The end of a move or return at its arrival: STILL with the demand at the target and the target absent, then MOVE_DONE or
the report of the end of the return (R87). The accumulator keeps a remainder of less than one unit beyond the target, which a
truncated demand does not show (R65): R87 rests the demand, and does not say that it sets the accumulator (DESIGN CHOICE,
notes/assumptions/17.md). -/
def State.moveArrived (s : State) : State :=
  let t := { s with xhs := { s.xhs with mode := .still, effRate := 0, target := none } }
  if s.xhs.mode = .return then t.returnEnded else t.put (.moveDone true)

/-- An expiry in MOVE or RETURN (R86, R87). The command at arrival is formed under STILL. -/
def State.moveExpiry (s : State) : State × Int :=
  match s.xhs.target with
  | none => (s, s.xhs.positionCommand)
  | some t =>
    let y := s.xhs.advanceMove t
    if y.arrived t then State.stillExpiry (State.moveArrived { s with xhs := y })
    else ({ s with xhs := y }, y.positionCommand)

/-- Stage 1 in a mode other than DISABLED (R72). -/
def State.formCommand (s : State) : State × Int :=
  match s.xhs.mode with
  | .disabled => (s, 0)
  | .still => s.stillExpiry
  | .jog =>
    let y := s.xhs.advancePosition
    ({ s with xhs := y }, y.positionCommand)
  | .move => s.moveExpiry
  | .return => s.moveExpiry
  | .step =>
    match s.xhs.controlClass with
    | .position =>
      let y := s.xhs.advanceRate.advancePosition
      ({ s with xhs := y }, y.positionCommand)
    | .strain =>
      let r := s.rateExpiry
      ({ s with xhs := r.1 }, r.2)
    | .stress =>
      let r := s.rateExpiry
      ({ s with xhs := r.1 }, r.2)

/-! ### Stage 2: the escape (R80) -/

/-- The escape sets a command toward an escaped limit to 0. -/
def Xhs.escapeBlocks (x : Xhs) (v : Int) : Bool := (x.escapeUp && decide (0 < v)) || (x.escapeDown && decide (v < 0))

/-- What keeps the demand from running away when the escape holds the command (R80). A waiting accumulator stays waiting,
because no sample composed before its arrival may set it (R78). -/
def State.restDemand (s : State) : State :=
  let x := s.xhs
  if x.mode = .step ∧ x.controlClass ≠ .position then
    match x.rateAcc, s.lastQuantity x.controlClass with
    | .value _, some q => { s with xhs := { x with rateAcc := .value (rateScale * q) } }
    | _, _ => s
  else { s with xhs := { x with posAcc := x.restAcc } }

/-- Stage 2 (R80). -/
def State.applyEscape (c : State × Int) : State × Int :=
  if c.1.xhs.escapeBlocks c.2 then (c.1.restDemand, 0) else c

/-! ### Stages 3 to 5 (R81 to R83) -/

/-- The speed limit in force (R81). -/
def State.speedLimit (s : State) : Int :=
  if s.dec.guardMode then min s.xhs.config.guardSpeed s.xhs.config.maxSpeed else s.xhs.config.maxSpeed

/-- Stage 3 (R81). -/
def State.clampSpeed (s : State) (v : Int) : Int := clampTo (-s.speedLimit) s.speedLimit v

/-- The command runs outward at or beyond the upper soft limit (R82). -/
def Xhs.beyondUpper (x : Xhs) (v : Int) : Bool := decide (x.config.softUpper ≤ x.position) && decide (0 < v)

/-- The command runs outward at or beyond the lower soft limit (R82). -/
def Xhs.beyondLower (x : Xhs) (v : Int) : Bool := decide (x.position ≤ x.config.softLower) && decide (v < 0)

/-- The further effect of a soft limit by mode (R82); the demand is already at the present position. -/
def State.softLimitEffect (upper : Bool) (s : State) : State :=
  match s.xhs.mode with
  | .disabled => s
  | .still => s
  | .jog => State.put (.jogStop .limit) { s with xhs := s.xhs.toStill }
  | .move => s
  | .step => (State.put (.softLimit upper) { s with xhs := s.xhs.stopped }).softLimitHold
  | .return => (State.put (.softLimit upper) { s with xhs := s.xhs.toStill }).returnEnded

/-- Stage 4 (R82). -/
def State.softLimits (c : State × Int) : State × Int :=
  if c.1.xhs.beyondUpper c.2 || c.1.xhs.beyondLower c.2 then
    (State.softLimitEffect (c.1.xhs.beyondUpper c.2)
      { c.1 with xhs := { c.1.xhs with posAcc := c.1.xhs.restAcc } }, 0)
  else c

/-- The speed word of a command (R83). -/
def speedWordOf (v fullScale : Int) : Int := clampTo (-32767) 32767 (roundDiv (v * 32767) fullScale)

/-- Stage 5: the command is the velocity command of the expiry, and its word is on the drive port (R72, R83). -/
def State.driveSpeed (c : State × Int) : State :=
  { c.1 with xhs := { c.1.xhs with velocity := c.2, speedWord := speedWordOf c.2 c.1.xhs.config.fullScale } }

/-! ### Stage 6: tracking and the model (R89) -/

/-- The tracking count after the check (R89). -/
def Xhs.nextTrackCount (x : Xhs) : Nat :=
  if x.config.trackTolerance < absDiff x.modelPosition x.position then x.trackCount + 1 else 0

/-- The check: at a count of 3 or more TRACKING is reported to DEC (R89, R120). -/
def State.checkTracking (s : State) : State :=
  let n := s.xhs.nextTrackCount
  let t := { s with xhs := { s.xhs with trackCount := n } }
  if 3 ≤ n then t.trip .tracking else t

/-- The advance of the model with the velocity command (R89). After a TRACKING trip both are 0 (R70). -/
def Xhs.advanceModel (x : Xhs) : Xhs :=
  let mv := x.modelVelocity + roundDiv ((x.velocity - x.modelVelocity) * servoPeriod) x.config.tau
  { x with modelVelocity := mv, modelAcc := x.modelAcc + mv }

/-! ### The monitor test (R90) -/

/-- The compared model position: shifted up in half 1 and down in half 2 (R90). -/
def Xhs.shiftedModel (x : Xhs) (taken : Nat) : Int :=
  if taken < 8 then x.modelPosition + (x.config.trackTolerance + 1)
  else x.modelPosition - (x.config.trackTolerance + 1)

/-- One comparison of a monitor test: the consecutive count, restarting at half 2, and whether it has reached 3 in the
half (R90). -/
def Xhs.compareMonitor (x : Xhs) (m : MonitorTest) : MonitorTest :=
  let before := if m.taken = 8 then 0 else m.count
  let reached := if m.taken = 8 then false else m.reached
  let n := if x.config.trackTolerance < absDiff (x.shiftedModel m.taken) x.position then before + 1 else 0
  let now := reached || decide (3 ≤ n)
  { taken := m.taken + 1, count := n, reached := now, firstHalf := if m.taken = 7 then some now else m.firstHalf }

/-- The end of a monitor test: monitor-proven takes the outcome and MONITOR_DONE is put (R90, R91). -/
def State.endMonitor (pass : Bool) (s : State) : State :=
  State.put (.monitorDone pass) { s with xhs := { s.xhs with monitor := none, monitorProven := pass } }

/-- A monitor test in progress takes an expiry in DISABLED (R90). -/
def State.monitorExpiry (s : State) : State :=
  match s.xhs.monitor with
  | none => s
  | some m =>
    let k := s.xhs.compareMonitor m
    if k.taken = 16 then s.endMonitor (k.reached && k.firstHalf.getD false)
    else { s with xhs := { s.xhs with monitor := some k } }

/-! ### The expiry (R72) -/

/-- An expiry in DISABLED: command and word 0, the model at the present position, then the monitor test (R70, R83, R89). -/
def State.disabledExpiry (s : State) : State :=
  let x := s.xhs
  State.monitorExpiry
    { s with xhs := { x with velocity := 0, speedWord := 0, modelVelocity := 0, modelAcc := x.restAcc, trackCount := 0 } }

/-- Stages 1 to 4: the state and the command that leaves stage 4 (R72). -/
def State.commandStages (s : State) : State × Int :=
  let c := State.applyEscape s.formCommand
  State.softLimits (c.1, c.1.clampSpeed c.2)

/-- An expiry in a mode other than DISABLED: the six stages of R72. -/
def State.activeExpiry (s : State) : State :=
  let t := (State.driveSpeed s.commandStages).checkTracking
  { t with xhs := t.xhs.advanceModel }

/-- An expiry of the servo timer (R72). -/
def State.servoExpiry (s : State) : State := if s.xhs.mode = .disabled then s.disabledExpiry else s.activeExpiry

/-! ### The jog lapse and the encoder (R66, R67, R85) -/

/-- The jog renewal time is reached: the jog lapses (R85). -/
def State.jogLapse (s : State) : State :=
  if s.xhs.mode = .jog ∧ s.xhs.jogRenewal = some s.dio.partTime then
    State.put (.jogStop .timeout) { s with xhs := s.xhs.toStill }
  else s

/-- Whether a legal transition is a step of the crosshead up: at every step of one direction of travel the old level of
channel A and the new level of channel B differ, and at every step of the other they agree (R66). Which direction is up is
the free value `Config.upPhase` (notes/assumptions/8.md). -/
def stepsUp (oldA newB : Bool) : Bool := (oldA != newB) == Config.upPhase

/-- A new sample of the quadrature channels: one channel changed counts, both changed is an illegal transition (R66, R67). -/
def State.encoderSample (chanA chanB : Bool) (s : State) : State :=
  let x := s.xhs
  let t := { s with xhs := { x with chanA := chanA, chanB := chanB } }
  match chanA != x.chanA, chanB != x.chanB with
  | false, false => t
  | true, true => t.trip .encoder
  | _, _ => { t with xhs := { t.xhs with count := if stepsUp x.chanA chanB then x.count + 1 else x.count - 1 } }

/-- XHS at RESTART: the counts, the channels and the frame configuration are kept (R94). -/
def Xhs.restarted (x : Xhs) : Xhs :=
  { x.disabled with monitorProven := false, monitor := none, escapeUp := false, escapeDown := false }

end Sys2Proof.Machine
end

