-- ==== Sys2Proof/Machine/Requests.lean ====
section
/-! DEFINITION. The requests of LDC, XTC, XHS, DEC, TSQ and TRB: each makes the checks of its rule in order and answers with an
acknowledgement or the reason of the first that fails (R209). -/

namespace Sys2Proof.Machine

/-! ### Load channel (R9, R13 to R15, R18, R19) -/

/-- The table of a range replaced. -/
def Ldc.setTable (r : LoadRange) (t : List CalPoint) (l : Ldc) : Ldc :=
  match r with
  | .fine => { l with fineTable := t }
  | .wide => { l with wideTable := t }

/-- The shunt parameters of a range replaced. -/
def Ldc.setShuntParams (r : LoadRange) (p : ShuntParams) (l : Ldc) : Ldc :=
  match r with
  | .fine => { l with fineShunt := p }
  | .wide => { l with wideShunt := p }

/-- The range a mode names, none for AUTO. -/
def RangeMode.named : RangeMode → Option LoadRange
  | .auto => none
  | .fine => some .fine
  | .wide => some .wide

/-- An accepted LOAD_RANGE (R9). -/
def State.setRangeMode (m : RangeMode) (s : State) : State :=
  let t := { s with ldc := { s.ldc with mode := m, down := 0 } }
  match m.named with
  | none => t
  | some r => if r = s.ldc.range then t else t.switchRange r

/-- LOAD_RANGE (R9). -/
def State.loadRange (mode : Byte) (s : State) : State × Answer :=
  if s.testing then (s, .no .state)
  else
    match rangeModeOf mode with
    | none => (s, .no .badValue)
    | some m => (s.setRangeMode m, .ack [])

/-- CAL_WRITE (R13). -/
def State.calWrite (range : Byte) (points : List (Word × Word)) (s : State) : State × Answer :=
  if s.dec.chain = .closed then (s, .no .chain)
  else if s.ldc.busy then (s, .no .busy)
  else
    match rangeOf range with
    | none => (s, .no .badValue)
    | some r =>
      if tableValid (calPointsOf points) then
        ({ s with ldc := s.ldc.setTable r (calPointsOf points) }, .ack [])
      else (s, .no .badValue)

/-- CAL_READ (R14). -/
def State.calRead (range : Byte) (s : State) : State × Answer :=
  match rangeOf range with
  | none => (s, .no .badValue)
  | some r => (s, .ack (s.ldc.calAnswer r))

/-- TARE (R15). -/
def State.tareStart (s : State) : State × Answer :=
  if s.testing then (s, .no .state)
  else if s.ldc.busy then (s, .no .busy)
  else if !s.rangeValid then (s, .no .noCal)
  else ({ s with ldc := { s.ldc with tareProgress := some ⟨0, 0⟩ } }, .ack [])

/-- SHUNT_CONFIG (R18). -/
def State.shuntConfig (range : Byte) (expected tolerance : Word) (s : State) : State × Answer :=
  if s.ldc.shunt.isSome then (s, .no .busy)
  else
    match rangeOf range with
    | none => (s, .no .badValue)
    | some r =>
      if inRange (-loadLimit) loadLimit expected.toInt && inRange 0 loadLimit tolerance.toInt then
        ({ s with ldc := s.ldc.setShuntParams r ⟨expected.toInt, tolerance.toInt⟩ }, .ack [])
      else (s, .no .badValue)

/-- SHUNT_CHECK (R19). -/
def State.shuntStart (s : State) : State × Answer :=
  if s.dec.chain = .closed ∨ s.testing = true then (s, .no .state)
  else if s.ldc.busy then (s, .no .busy)
  else if !s.rangeValid then (s, .no .noCal)
  else ({ s with ldc := { s.ldc with shunt := some ⟨.baseline, 0, 0, 0⟩ } }, .ack [])

/-! ### Extensometer arms (R26, R35, R38, R44) -/

/-- An arm with the written configuration (R26). -/
def ArmRec.configured (f : ArmConfigFields) (r : ArmRec) : ArmRec :=
  { r with enabled := (flagOf f.enabled).getD false, scale := some f.scale.toInt, span := some f.span.toInt,
           slipThreshold := some f.slip.toInt }

/-- XTC with the written configuration (R26). -/
def Xtc.configured (f : ExtConfigFields) (x : Xtc) : Xtc where
  armA := x.armA.configured f.armA
  armB := x.armB.configured f.armB
  pullInTime := f.pullIn.toNat
  holdOnTime := f.holdOn.toNat
  holdOffTime := f.holdOff.toNat
  seatTimeout := f.seatTimeout.toNat
  releaseTimeout := f.releaseTimeout.toNat

/-- EXT_CONFIG (R26). -/
def State.extConfig (f : ExtConfigFields) (s : State) : State × Answer :=
  if s.xtc.armA.state ≠ .opened ∨ s.xtc.armB.state ≠ .opened then (s, .no .state)
  else if extFieldsValid f then ({ s with xtc := s.xtc.configured f }, .ack [])
  else (s, .no .badValue)

/-- Every named arm is enabled (R35). -/
def State.namedEnabled (named : Bool × Bool) (s : State) : Bool :=
  (!named.1 || s.xtc.armA.enabled) && (!named.2 || s.xtc.armB.enabled)

/-- An accepted EXT_SEAT: arm A, then arm B, then SMP is told (R30, R35). -/
def State.seatArms (named : Bool × Bool) (s : State) : State :=
  ((s.seatArm named.1 .a).seatArm named.2 .b).sourceAtArmChange

/-- EXT_SEAT (R35). -/
def State.extSeat (select : Byte) (s : State) : State × Answer :=
  if s.testing then (s, .no .state)
  else
    match armSelectOf select with
    | none => (s, .no .badValue)
    | some named =>
      if s.namedEnabled named then (s.seatArms named, (s.seatArms named).armAnswer) else (s, .no .badValue)

/-- Some named arm is SEATED, ZEROING or ZEROED (R38). -/
def State.namedZeroable (named : Bool × Bool) (s : State) : Bool :=
  (named.1 && s.xtc.armA.state.zeroable) || (named.2 && s.xtc.armB.state.zeroable)

/-- An accepted EXT_ZERO: arm A, then arm B, then SMP is told (R30, R38). -/
def State.zeroArms (named : Bool × Bool) (s : State) : State :=
  ((s.zeroArm named.1 .a).zeroArm named.2 .b).sourceAtArmChange

/-- EXT_ZERO (R38). -/
def State.extZero (select : Byte) (s : State) : State × Answer :=
  if s.testing then (s, .no .state)
  else
    match armSelectOf select with
    | none => (s, .no .badValue)
    | some named =>
      if s.namedZeroable named then (s.zeroArms named, (s.zeroArms named).armAnswer) else (s, .no .notSeated)

/-- EXT_RELEASE: a release start with cause request on the named arms (R43, R44). -/
def State.extRelease (select : Byte) (s : State) : State × Answer :=
  match armSelectOf select with
  | none => (s, .no .badValue)
  | some named => (s.releaseStart named.1 named.2 true, (s.releaseStart named.1 named.2 true).armAnswer)

/-! ### Crosshead servo (R69, R84, R86, R88, R90 to R92) -/

/-- POSITION_ZERO on XHS (R69). -/
def Xhs.zeroed (x : Xhs) : Xhs :=
  { x with zeroCount := x.count, posAcc := x.posAcc - x.position * positionScale,
           modelAcc := x.modelAcc - x.position * positionScale }

/-- POSITION_ZERO (R69). -/
def State.positionZero (s : State) : State × Answer :=
  if s.testing then (s, .no .state)
  else if s.xhs.mode = .jog ∨ s.xhs.mode = .move then (s, .no .busy)
  else ({ s with xhs := s.xhs.zeroed }, .ack [])

/-- The renewal time of a jog, in ms (R84). -/
def jogRenewalTime : Nat := 300

/-- JOG or its renewal takes effect in XHS (R84). -/
def State.beginJog (speed : Int) (s : State) : State :=
  { s with xhs := { s.xhs with mode := .jog, effRate := speed, target := none,
                               jogRenewal := some (s.timeAfter jogRenewalTime) } }

/-- STILL with the demand at the present position. -/
def State.comeToStill (s : State) : State := { s with xhs := s.xhs.toStill }

/-- A JOG with a speed other than 0 (R84). -/
def State.jogOn (speed : Int) (s : State) : State :=
  match s.xhs.mode with
  | .still => s.beginJog speed
  | .jog => s.beginJog speed
  | .move => (s.beginJog speed).put (.moveDone false)
  | .disabled => s
  | .step => s
  | .return => s

/-- A JOG with speed 0 (R84), and what STOP does with a running jog or move (R88). -/
def State.jogOff (s : State) : State :=
  match s.xhs.mode with
  | .jog => s.comeToStill.put (.jogStop .request)
  | .move => s.comeToStill.put (.moveDone false)
  | .still => s
  | .disabled => s
  | .step => s
  | .return => s

/-- JOG (R84). -/
def State.jog (speed : Word) (s : State) : State × Answer :=
  if s.testing then (s, .no .state)
  else if s.dec.chain = .opened then (s, .no .chain)
  else if !inRange (-600000) 600000 speed.toInt then (s, .no .badValue)
  else if speed.toInt = 0 then (s.jogOff, .ack [])
  else (s.jogOn speed.toInt, .ack [])

/-- MOVE_TO takes effect in XHS: the demand runs on from where it stood (R86). -/
def State.beginMove (target speed : Int) (s : State) : State :=
  { s with xhs := { s.xhs with mode := .move, target := some ⟨target, speed⟩, jogRenewal := none } }

/-- An accepted MOVE_TO (R86). -/
def State.moveOn (target speed : Int) (s : State) : State :=
  match s.xhs.mode with
  | .still => s.beginMove target speed
  | .move => (s.beginMove target speed).put (.moveDone false)
  | .jog => (s.beginMove target speed).put (.jogStop .request)
  | .disabled => s
  | .step => s
  | .return => s

/-- A move's speed and target are acceptable (R86). -/
def FrameConfig.moveValid (c : FrameConfig) (target speed : Int) : Bool :=
  inRange 1 600000 speed && inRange c.softLower c.softUpper target

/-- MOVE_TO (R86). -/
def State.moveTo (target speed : Word) (s : State) : State × Answer :=
  if s.testing then (s, .no .state)
  else if s.dec.chain = .opened then (s, .no .chain)
  else if s.xhs.config.moveValid target.toInt speed.toInt then (s.moveOn target.toInt speed.toInt, .ack [])
  else (s, .no .badValue)

/-- An accepted STOP (R88). -/
def State.stopMotion (s : State) : State :=
  match s.xhs.mode with
  | .disabled => s
  | .still => s.comeToStill
  | .jog => s.jogOff
  | .move => s.jogOff
  | .step => s.comeToStill
  | .return => s.comeToStill

/-- STOP (R88). -/
def State.stop (s : State) : State × Answer :=
  if s.testing then (s, .no .state) else (s.stopMotion, .ack [])

/-- MONITOR_TEST (R90). -/
def State.monitorStart (s : State) : State × Answer :=
  if s.dec.chain = .closed then (s, .no .chain)
  else if s.testing then (s, .no .state)
  else if s.ldc.shunt.isSome || s.xhs.monitor.isSome then (s, .no .busy)
  else ({ s with xhs := { s.xhs with monitor := some ⟨0, 0, false, none⟩ } }, .ack [])

/-- The frame overload is not below the test overload of the active profile when one is held (R92). -/
def State.overloadAllowed (c : FrameConfig) (s : State) : Bool :=
  match s.tsq.active with
  | none => true
  | some p => decide (p.spec.testOverload ≤ c.frameOverload)

/-- Monitor-proven and a monitor test after a change of track tolerance or τ (R90, R91). -/
def State.unproveMonitor (s : State) : State :=
  if s.xhs.monitor.isSome then s.endMonitor false else { s with xhs := { s.xhs with monitorProven := false } }

/-- An accepted FRAME_CONFIG (R91, R92). -/
def State.setFrameConfig (c : FrameConfig) (s : State) : State :=
  let t := { s with xhs := { s.xhs with config := c } }
  if c.trackTolerance ≠ s.xhs.config.trackTolerance ∨ c.tau ≠ s.xhs.config.tau then t.unproveMonitor else t

/-- FRAME_CONFIG (R92). -/
def State.frameConfig (f : FrameConfigFields) (s : State) : State × Answer :=
  if s.dec.chain = .closed then (s, .no .chain)
  else if (frameConfigOf f).inRanges && s.overloadAllowed (frameConfigOf f) then (s.setFrameConfig (frameConfigOf f), .ack [])
  else (s, .no .badValue)

/-! ### Drive enable chain (R110, R114, R122, R123) -/

/-- DRIVE_ON (R110). -/
def State.driveOn (s : State) : State × Answer :=
  if s.dec.chain = .closed then (s, .ack [])
  else if s.ldc.shunt.isSome || s.xhs.monitor.isSome then (s, .no .busy)
  else
    let missing := s.missingPermissives s.limitBlocked
    if missing.any id then (s, .refuse .notReady (flagHalf missing)) else (s.closeChain, .ack [])

/-- DRIVE_OFF (R114). -/
def State.driveOff (s : State) : State × Answer :=
  if s.testing then (s, .no .state)
  else if s.dec.chain = .closed then (s.openChain .driveOff, .ack [])
  else (s, .ack [])

/-- TRIP_CLEAR (R122, R123). -/
def State.tripClear (s : State) : State × Answer :=
  if s.dec.trips = [] then (s, .ack [])
  else
    let t := s.clearTrips
    if t.dec.trips = [] then (t, .ack []) else (t, .refuse .tripped (tripBitmap t.dec.trips))

/-! ### Running a test (R145, R146, R153, R155, R161) -/

/-- Work in progress that refuses TEST_START with BUSY (R145 check 6). -/
def State.startBusy (s : State) : Bool :=
  s.ldc.busy || s.xhs.monitor.isSome || s.xhs.mode == .jog || s.xhs.mode == .move ||
  [s.xtc.armA.state, s.xtc.armB.state].any fun t => t == .seating || t == .zeroing

/-- Plan EXT with no arm ZEROED (R145 check 7). -/
def State.planUnseated (p : Profile) (s : State) : Bool :=
  p.spec.plan == .ext && decide (s.averagingSet = (false, false))

/-- The source by the strain plan (R57). -/
def State.planSource (p : Profile) (s : State) : StrainSource :=
  match p.spec.plan with
  | .ext => sourceOfSet s.averagingSet
  | .xhead => .xhead

/-- The corrected displacement of the last sample, or the present position when there is none (R54). -/
def State.zeroReference (s : State) : Int :=
  match s.smp.last with
  | some l => l.basis.corrected
  | none => s.position

/-- SMP at a test start (R57): source, offset, marks, crosshead zero reference, index. -/
def State.startSource (p : Profile) (s : State) : State :=
  let t := s.setSource (s.planSource p) 0 .start
  { t with smp := { t.smp with handoverMark := false, forcedMark := false, zeroRef := s.zeroReference, index := 0,
                               composedAtStart := t.smp.composed } }

/-- TSQ at a test start (R146 step 1). -/
def State.startSequence (s : State) : State :=
  { s with tsq := { s.tsq with state := .running, step := some 0, stepTime := 0, startPosition := s.position,
                               prevLoaded := none, breakFound := false, fracture := none } }

/-- The begin of step 0 is reported to XHS (R146 step 6). -/
def State.beginFirst (p : Profile) (s : State) : State :=
  match p.stepAt 0 with
  | some k => s.servoBumpless k
  | none => s

/-- RES and TRB at a test start (R146 steps 4 and 5). -/
def State.startRecords (p : Profile) (s : State) : State :=
  { s with res := Res.started p.spec, trb := s.trb.started p.spec.traceBase.toNat }

/-- An accepted TEST_START, in the order of R146. -/
def State.startTest (p : Profile) (s : State) : State :=
  let t := s.startSequence.put (.test .running)
  let u := (t.startSource p).startRecords p
  ((u.beginFirst p).put (.step 0)).guardAtStart

/-- TEST_START (R145). -/
def State.testStart (s : State) : State × Answer :=
  if s.testing then (s, .no .state)
  else
    match s.tsq.active with
    | none => (s, .no .noProfile)
    | some p =>
      if s.dec.chain = .opened then (s, .no .chain)
      else if !s.gripsClosed then (s, .no .notReady)
      else if !s.rangeValid then (s, .no .noCal)
      else if s.startBusy then (s, .no .busy)
      else if s.planUnseated p then (s, .no .notSeated)
      else (s.startTest p, .ack [])

/-- A hold on request, with the report to XHS before the event (R153). -/
def State.holdTest (s : State) : State := s.servoStop.enterTest (.holding .request)

/-- TEST_HOLD (R153). -/
def State.testHold (s : State) : State × Answer :=
  match s.tsq.state with
  | .running => (s.holdTest, .ack [])
  | .holding _ => (s, .ack [])
  | .idle => (s, .no .state)
  | .returning => (s, .no .state)
  | .ended _ => (s, .no .state)

/-- The resume: XHS takes up the current step again by R78, then TEST(RUNNING) is put (R155). -/
def State.resumeTest (s : State) : State :=
  let t :=
    match s.currentStep with
    | some k => s.servoBumpless k
    | none => s
  t.enterTest .running

/-- TEST_RESUME (R155). -/
def State.testResume (s : State) : State × Answer :=
  match s.tsq.state with
  | .holding .request => (s.resumeTest, .ack [])
  | .holding .soft => (s, .no .limit)
  | .idle => (s, .no .state)
  | .running => (s, .no .state)
  | .returning => (s, .no .state)
  | .ended _ => (s, .no .state)

/-- TEST_ABORT (R161). -/
def State.testAbort (s : State) : State × Answer :=
  if s.testing then (s.servoStop.dropPending.enterEnded .abortRequest, .ack []) else (s, .no .state)

/-! ### Trace records (R198) -/

/-- TRACE_CONFIG in a test state (R198). -/
def State.traceConfigTesting (streaming : Byte) (s : State) : State × Answer :=
  if streaming = 0 then ({ s with trb := { s.trb with streaming := false } }, .ack []) else (s, .no .state)

/-- TRACE_CONFIG (R198). -/
def State.traceConfig (streaming base : Byte) (s : State) : State × Answer :=
  if s.testing then s.traceConfigTesting streaming
  else
    match flagOf streaming, baseOf base with
    | some on, some n => ({ s with trb := { s.trb with streaming := on, base := n, factor := n } }, .ack [])
    | _, _ => (s, .no .badValue)

end Sys2Proof.Machine
end

