-- ==== Sys2Proof/Machine/Reset.lean ====
section
/-! DEFINITION. The two resets: power-on reset (R24, R47, R63, R93, R100, R107, R125, R142, R165, R189, R200, R216) and the
effect of RESTART in every block (R25, R48, R64, R94, R100, R107, R126, R143, R166, R190, R201, R215). -/

namespace Sys2Proof.Machine

/-- EVQ after either reset: emptied, the mark clear, then one START_UP stamped with part time 0 (R107). -/
def Evq.started (byRestart : Bool) : Evq := { entries := [⟨.startUp byRestart, 0⟩], overflow := false }

/-- DIO after power-on reset (R100, R102); the model's own counter goes on (notes/assumptions/5.md). -/
def Dio.powerOn (levels : BitVec 10) (configs : Nat) : Dio :=
  { inputs := .powerOn levels, partTime := 0, subMs := 0, configs := configs }

/-- DIO at RESTART (R100, R102); the model's own counter goes on (notes/assumptions/5.md). -/
def Dio.restarted (d : Dio) : Dio := { inputs := d.inputs.settled, partTime := 0, subMs := 0, configs := d.configs }

/-- The rate code of the two straps (R202). -/
def strapCode (rateSelB rateSelA : Bool) : BitVec 2 := BitVec.ofBool rateSelB ++ BitVec.ofBool rateSelA

/-- TSQ at RESTART: the staged and active copies are kept (R143, R166). -/
def Tsq.restarted (t : Tsq) : Tsq := { Tsq.powerOn with staged := t.staged, active := t.active }

/-- Every block at power-on reset, before the evaluation of the starting levels. The waiting commands are kept. -/
def State.powerOnBlocks (rateCode : BitVec 2) (levels : BitVec 10) (chanA chanB : Bool) (s : State) : State :=
  { dio := .powerOn levels s.dio.configs, evq := .started false, ldc := .powerOn, xtc := .powerOn, smp := .powerOn,
    xhs := .powerOn chanA chanB, dec := .powerOn, tsq := .powerOn, res := .powerOn, trb := .powerOn,
    lnk := .powerOn rateCode, pending := s.pending }

/-- Power-on reset: the values of every block, then the evaluation of the starting levels (R125). -/
def State.powerOn (rateCode : BitVec 2) (levels : BitVec 10) (chanA chanB : Bool) (s : State) : State :=
  (s.powerOnBlocks rateCode levels chanA chanB).evaluateStart

/-- Every block at RESTART, before the evaluation of the starting levels. -/
def State.restartBlocks (s : State) : State :=
  { dio := s.dio.restarted, evq := .started true, ldc := s.ldc.restarted, xtc := s.xtc.restarted, smp := .powerOn,
    xhs := s.xhs.restarted, dec := .powerOn, tsq := s.tsq.restarted, res := .powerOn, trb := .powerOn,
    lnk := .powerOn s.lnk.rateCode, pending := s.pending }

/-- The restart takes effect in every block (R215), and DEC evaluates the starting levels (R126). -/
def State.restart (s : State) : State := s.restartBlocks.evaluateStart

end Sys2Proof.Machine
end

