-- ==== Sys2Proof/Machine/Link.lean ====
section
/-! DEFINITION. LNK: receiving, the halt, dispatch and replies, and the transmitter (chapter The Message Link). -/

namespace Sys2Proof.Machine

/-! ### The owning blocks (R209, R217) -/

/-- What the owning block of a request does, and its answer (R209, R217). RESTART is acknowledged; it takes effect at the end
of its reply frame (R215). -/
def State.act (r : Request) (s : State) : State × Answer :=
  match r with
  | .ping payload => (s, .ack payload)
  | .statusRead => (s, .ack s.statusAnswer)
  | .readNow => (s, .ack s.readNowAnswer)
  | .eventRead n => s.eventRead n
  | .restart => (s, .ack [])
  | .inputConfig index polarity debounce route => s.inputConfig index polarity debounce route
  | .frameConfig f => s.frameConfig f
  | .calWrite range points => s.calWrite range points
  | .calRead range => s.calRead range
  | .shuntConfig range expected tolerance => s.shuntConfig range expected tolerance
  | .loadRange mode => s.loadRange mode
  | .tare => s.tareStart
  | .shuntCheck => s.shuntStart
  | .extConfig f => s.extConfig f
  | .extSeat select => s.extSeat select
  | .extZero select => s.extZero select
  | .extRelease select => s.extRelease select
  | .positionZero => s.positionZero
  | .driveOn => s.driveOn
  | .driveOff => s.driveOff
  | .tripClear => s.tripClear
  | .monitorTest => s.monitorStart
  | .jog speed => s.jog speed
  | .moveTo target speed => s.moveTo target speed
  | .stop => s.stop
  | .profileSpecWrite f => s.profileSpecWrite f
  | .profileStepWrite slot record => s.profileStepWrite slot record
  | .profileCommit => s.profileCommit
  | .profileRead copy part => (s, s.profileAnswer copy part)
  | .testStart => s.testStart
  | .testHold => s.testHold
  | .testResume => s.testResume
  | .testAbort => s.testAbort
  | .resultRead => (s, .ack s.res.items.record.bytes)
  | .traceConfig streaming base => s.traceConfig streaming base

/-- The decoding of a frame and what follows from it: a refusal of the link, or the owning block's action and answer (R209). -/
def State.decodeAndAct (f : Frame) (s : State) : State × Answer :=
  match decodeFrame f with
  | .badKind => (s, .no .unknownKind)
  | .badLength => (s, .no .badLength)
  | .request r => s.act r

/-! ### The transmitter (R195, R213) -/

/-- The reply frame begins. -/
def State.sendReply (s : State) : State := { s with lnk := { s.lnk with transmitter := .reply } }

/-- LNK takes the record that TRB offers; it stays in the buffer as its oldest entry (R195). -/
def State.sendRecord (r : TraceRecord) (s : State) : State :=
  { s with trb := { s.trb with inFlight := .oldest }, lnk := { s.lnk with transmitter := .trace r } }

/-- The transmitter idle. -/
def State.sendNothing (s : State) : State := { s with lnk := { s.lnk with transmitter := .idle } }

/-- The record that TRB offers: its oldest, while none is in flight (R195). -/
def Trb.offered (t : Trb) : Option TraceRecord :=
  match t.inFlight with
  | .no => t.buffer.head?
  | .oldest => none
  | .discarded => none

/-- A free transmitter begins the reply that waits, or else takes the record that TRB offers, or becomes IDLE (R213). -/
def State.chooseFrame (s : State) : State :=
  match s.lnk.replySlot, s.trb.offered with
  | some _, _ => s.sendReply
  | none, some r => s.sendRecord r
  | none, none => s.sendNothing

/-- An IDLE transmitter begins what is there to send (R213). -/
def State.kick (s : State) : State := if s.lnk.transmitter = .idle then s.chooseFrame else s

/-! ### Dispatch (R208 to R211) -/

/-- The dispatch of a frame: decoded, acted on, and answered by one reply in the reply slot (R209, R210). -/
def State.dispatch (f : Frame) (s : State) : State :=
  let r := State.decodeAndAct f { s with lnk := { s.lnk with receiveSlot := none } }
  { r.1 with lnk := { r.1.lnk with replySlot := some (r.1.reply f r.2) } }

/-- The frame in the receive slot is dispatched as soon as the reply slot is empty (R209). -/
def State.dispatchWaiting (s : State) : State :=
  match s.lnk.receiveSlot, s.lnk.replySlot with
  | some f, none => s.dispatch f
  | _, _ => s

/-- A frame passes its CRC test: it enters an empty receive slot and is dispatched when it can be; at an occupied slot it is
discarded (R208, R209, R213). -/
def State.frameArrives (f : Frame) (s : State) : State :=
  match s.lnk.receiveSlot with
  | some _ => s
  | none => (State.dispatchWaiting { s with lnk := { s.lnk with receiveSlot := some f } }).kick

/-! ### Receiving (R205, R206) -/

/-- The receiver position set. -/
def State.setReceiver (r : Receiver) (s : State) : State := { s with lnk := { s.lnk with receiver := r } }

/-- The greatest length byte (R203). -/
def lengthValid (len : Byte) : Bool := decide (len.toNat ≤ maxPayload)

/-- The position after a byte without framing error, with the frame completed when its CRC passes (R204, R205, R206). -/
def Receiver.take (r : Receiver) (byte : Byte) : Receiver × Option Frame :=
  match r with
  | .hunt => (if byte = startByte then .length else .hunt, none)
  | .length => (if lengthValid byte then .kind byte else .hunt, none)
  | .kind n => (.tag n byte, none)
  | .tag n k => (if n = 0 then .crcHigh n k byte [] else .payload n k byte [], none)
  | .payload n k g got =>
    (if got.length + 1 = n.toNat then .crcHigh n k g (got ++ [byte]) else .payload n k g (got ++ [byte]), none)
  | .crcHigh n k g got => (.crcLow n k g got byte, none)
  | .crcLow n k g got high => (.hunt, if crcOf (n :: k :: g :: got) = high ++ byte then some ⟨k, g, got⟩ else none)

/-- A byte of the receive line (R205). While the line is in break the receiver takes none (R207). -/
def State.receiveByte (byte : Byte) (framingError : Bool) (s : State) : State :=
  if s.lnk.inBreak then s
  else if framingError then s.setReceiver .hunt
  else
    let r := s.lnk.receiver.take byte
    match r.2 with
    | none => s.setReceiver r.1
    | some f => (s.setReceiver r.1).frameArrives f

/-- The gap timer expires: a partial frame is discarded (R206). -/
def State.gapExpiry (s : State) : State := s.setReceiver .hunt

/-! ### The halt (R207) -/

/-- Line in break becomes yes and a partial frame is discarded (R207 step 1). -/
def State.enterBreak (s : State) : State := { s with lnk := { s.lnk with inBreak := true, receiver := .hunt } }

/-- A halt: one report for each break, to DEC and then to LDC (R207). -/
def State.halt (s : State) : State := if s.lnk.inBreak then s else (s.enterBreak.trip .halt).haltLoad

/-- The line returns to marking (R207). With no break to end it changes nothing (DESIGN CHOICE, notes/assumptions/7.md). -/
def State.breakEnd (s : State) : State :=
  if s.lnk.inBreak then { s with lnk := { s.lnk with inBreak := false, receiver := .hunt } } else s

/-! ### The ends of frames (R213, R215) -/

/-- The kind byte of the acknowledgement of RESTART (R210, R217). -/
def restartAckKind : Byte := 0x85#8

/-- Whether the reply in the reply slot is the acknowledgement of RESTART. -/
def Lnk.restarting (l : Lnk) : Bool :=
  match l.replySlot with
  | some f => f.kind == restartAckKind
  | none => false

/-- The reply slot emptied and the transmitter free (R213). -/
def State.freeReply (s : State) : State := { s with lnk := { s.lnk with replySlot := none, transmitter := .idle } }

/-- The end of a reply frame: the restart takes effect, or the waiting frame is dispatched and the transmitter chooses (R213,
R215). -/
def State.replyEnd (s : State) : State :=
  match s.lnk.transmitter with
  | .reply => if s.lnk.restarting then s.restart else s.freeReply.dispatchWaiting.chooseFrame
  | .idle => s
  | .trace _ => s

/-- The end of a trace frame: TRB is told, then the transmitter chooses (R195, R213). -/
def State.traceEnd (s : State) : State :=
  match s.lnk.transmitter with
  | .trace _ => s.traceSent.chooseFrame
  | .idle => s
  | .reply => s

/-! ### Requests as commands -/

/-- A request frame that has passed its CRC test (R208; notes/assumptions/3.md). -/
def State.request (r : Request) (tag : Byte) (s : State) : State := s.frameArrives (r.frame tag)

end Sys2Proof.Machine
end

