-- ==== Sys2Proof/Machine/HostRequests.lean ====
section
/-! DEFINITION. The meanings of the request commands: each is a request frame that has passed its CRC test and arrives at the
receive slot (R208), with the action of its owning block at its dispatch (R209). -/

namespace Sys2Proof.Machine

/-- PING: the payload comes back unchanged (R217). -/
def execPing (tag : Byte) (payload : List Byte) (s : State) : Host.Outcome State Fault Refusal :=
  .next (s.request (.ping payload) tag)

/-- STATUS_READ: the 8-byte status (R223). -/
def execStatusRead (tag : Byte) (s : State) : Host.Outcome State Fault Refusal :=
  .next (s.request .statusRead tag)

/-- READ_NOW: the 81 bytes of present values (R223). -/
def execReadNow (tag : Byte) (s : State) : Host.Outcome State Fault Refusal :=
  .next (s.request .readNow tag)

/-- EVENT_READ: the oldest entries leave the queue (R106). -/
def execEventRead (tag : Byte) (n : Byte) (s : State) : Host.Outcome State Fault Refusal :=
  .next (s.request (.eventRead n) tag)

/-- RESTART: acknowledged; the restart takes effect at the end of the reply frame (R215). -/
def execRestart (tag : Byte) (s : State) : Host.Outcome State Fault Refusal :=
  .next (s.request .restart tag)

/-- INPUT_CONFIG: the configuration of one input (R99). -/
def execInputConfig (tag : Byte) (index : Byte) (polarity : Byte) (debounce : Byte) (route : Byte) (s : State) : Host.Outcome State Fault Refusal :=
  .next (s.request (.inputConfig index polarity debounce route) tag)

/-- FRAME_CONFIG: the whole frame configuration (R91, R92). -/
def execFrameConfig (tag : Byte) (fields : FrameConfigFields) (s : State) : Host.Outcome State Fault Refusal :=
  .next (s.request (.frameConfig fields) tag)

/-- CAL_WRITE: the calibration table of one range (R13). -/
def execCalWrite (tag : Byte) (range : Byte) (points : List (Word × Word)) (s : State) : Host.Outcome State Fault Refusal :=
  .next (s.request (.calWrite range points) tag)

/-- CAL_READ: a calibration table and its shunt parameters (R14). -/
def execCalRead (tag : Byte) (range : Byte) (s : State) : Host.Outcome State Fault Refusal :=
  .next (s.request (.calRead range) tag)

/-- SHUNT_CONFIG: the shunt parameters of one range (R18). -/
def execShuntConfig (tag : Byte) (range : Byte) (expected : Word) (tolerance : Word) (s : State) : Host.Outcome State Fault Refusal :=
  .next (s.request (.shuntConfig range expected tolerance) tag)

/-- LOAD_RANGE: the range mode (R9, R12). -/
def execLoadRange (tag : Byte) (mode : Byte) (s : State) : Host.Outcome State Fault Refusal :=
  .next (s.request (.loadRange mode) tag)

/-- TARE: a tare measurement begins (R15). -/
def execTare (tag : Byte) (s : State) : Host.Outcome State Fault Refusal :=
  .next (s.request .tare tag)

/-- SHUNT_CHECK: a shunt check begins (R19). -/
def execShuntCheck (tag : Byte) (s : State) : Host.Outcome State Fault Refusal :=
  .next (s.request .shuntCheck tag)

/-- EXT_CONFIG: the whole extensometer configuration (R26). -/
def execExtConfig (tag : Byte) (fields : ExtConfigFields) (s : State) : Host.Outcome State Fault Refusal :=
  .next (s.request (.extConfig fields) tag)

/-- EXT_SEAT: arms are seated (R33 to R36). -/
def execExtSeat (tag : Byte) (select : Byte) (s : State) : Host.Outcome State Fault Refusal :=
  .next (s.request (.extSeat select) tag)

/-- EXT_ZERO: arms are zeroed (R38). -/
def execExtZero (tag : Byte) (select : Byte) (s : State) : Host.Outcome State Fault Refusal :=
  .next (s.request (.extZero select) tag)

/-- EXT_RELEASE: arms are released (R43 to R45). -/
def execExtRelease (tag : Byte) (select : Byte) (s : State) : Host.Outcome State Fault Refusal :=
  .next (s.request (.extRelease select) tag)

/-- POSITION_ZERO: the present position becomes 0 (R69). -/
def execPositionZero (tag : Byte) (s : State) : Host.Outcome State Fault Refusal :=
  .next (s.request .positionZero tag)

/-- DRIVE_ON: the chain is closed (R110, R111). -/
def execDriveOn (tag : Byte) (s : State) : Host.Outcome State Fault Refusal :=
  .next (s.request .driveOn tag)

/-- DRIVE_OFF: the chain is opened without a trip (R113, R114). -/
def execDriveOff (tag : Byte) (s : State) : Host.Outcome State Fault Refusal :=
  .next (s.request .driveOff tag)

/-- TRIP_CLEAR: trips whose condition is gone are removed (R122, R123). -/
def execTripClear (tag : Byte) (s : State) : Host.Outcome State Fault Refusal :=
  .next (s.request .tripClear tag)

/-- MONITOR_TEST: the tracking detector is proved (R90). -/
def execMonitorTest (tag : Byte) (s : State) : Host.Outcome State Fault Refusal :=
  .next (s.request .monitorTest tag)

/-- JOG: a jog begins, is renewed or ends (R84). -/
def execJog (tag : Byte) (speed : Word) (s : State) : Host.Outcome State Fault Refusal :=
  .next (s.request (.jog speed) tag)

/-- MOVE_TO: a move begins (R86). -/
def execMoveTo (tag : Byte) (target : Word) (speed : Word) (s : State) : Host.Outcome State Fault Refusal :=
  .next (s.request (.moveTo target speed) tag)

/-- STOP: motion outside a test stops (R88). -/
def execStop (tag : Byte) (s : State) : Host.Outcome State Fault Refusal :=
  .next (s.request .stop tag)

/-- PROFILE_SPEC_WRITE: the staged spec part (R131). -/
def execProfileSpecWrite (tag : Byte) (fields : SpecFields) (s : State) : Host.Outcome State Fault Refusal :=
  .next (s.request (.profileSpecWrite fields) tag)

/-- PROFILE_STEP_WRITE: one staged step slot (R132). -/
def execProfileStepWrite (tag : Byte) (slot : Byte) (record : StepRecord) (s : State) : Host.Outcome State Fault Refusal :=
  .next (s.request (.profileStepWrite slot record) tag)

/-- PROFILE_COMMIT: the staged copy is checked and taken into use (R133 to R137). -/
def execProfileCommit (tag : Byte) (s : State) : Host.Outcome State Fault Refusal :=
  .next (s.request .profileCommit tag)

/-- PROFILE_READ: one part of one profile copy (R141). -/
def execProfileRead (tag : Byte) (copy : Byte) (part : Byte) (s : State) : Host.Outcome State Fault Refusal :=
  .next (s.request (.profileRead copy part) tag)

/-- TEST_START: a test begins (R145, R146). -/
def execTestStart (tag : Byte) (s : State) : Host.Outcome State Fault Refusal :=
  .next (s.request .testStart tag)

/-- TEST_HOLD: a running test holds (R153). -/
def execTestHold (tag : Byte) (s : State) : Host.Outcome State Fault Refusal :=
  .next (s.request .testHold tag)

/-- TEST_RESUME: a held test runs on (R155). -/
def execTestResume (tag : Byte) (s : State) : Host.Outcome State Fault Refusal :=
  .next (s.request .testResume tag)

/-- TEST_ABORT: a test ends on request (R161). -/
def execTestAbort (tag : Byte) (s : State) : Host.Outcome State Fault Refusal :=
  .next (s.request .testAbort tag)

/-- RESULT_READ: the result record (R187, R222). -/
def execResultRead (tag : Byte) (s : State) : Host.Outcome State Fault Refusal :=
  .next (s.request .resultRead tag)

/-- TRACE_CONFIG: streaming and the base (R198). -/
def execTraceConfig (tag : Byte) (streaming : Byte) (base : Byte) (s : State) : Host.Outcome State Fault Refusal :=
  .next (s.request (.traceConfig streaming base) tag)

/-- UNKNOWN_KIND_REQUEST: a complete frame of a kind outside the catalogue, refused UNKNOWN_KIND at its dispatch (R209). -/
def execUnknownKindRequest (kind tag : Byte) (payload : List Byte) (s : State) : Host.Outcome State Fault Refusal :=
  .next (s.frameArrives ⟨kind, tag, payload⟩)

end Sys2Proof.Machine
end

