-- ==== Sys2Proof/Machine/LinkEvents.lean ====
section
/-! DEFINITION. The meanings of the events of the link side: resets by the pins, bytes, breaks and the ends of frames. -/

namespace Sys2Proof.Machine

/-- POWER_ON_RESET: every block takes its values of power-on reset (R216). -/
def execPowerOnReset (rateSelB : Bool) (rateSelA : Bool) (levels : BitVec 10) (chanA : Bool) (chanB : Bool) (s : State) : Host.Outcome State Fault Refusal :=
  .next (s.powerOn (strapCode rateSelB rateSelA) levels chanA chanB)

/-- RECEIVE_BYTE: the receiver takes a byte (R205). -/
def execReceiveByte (byte : Byte) (framingError : Bool) (s : State) : Host.Outcome State Fault Refusal :=
  .next (s.receiveByte byte framingError)

/-- GAP_TIMER_EXPIRY: a partial frame is discarded (R206). -/
def execGapTimerExpiry (s : State) : Host.Outcome State Fault Refusal :=
  .next (s.gapExpiry)

/-- HALT: the receive line has been at spacing for 20 bit times (R207). -/
def execHalt (s : State) : Host.Outcome State Fault Refusal :=
  .next (s.halt)

/-- BREAK_END: the receive line returns to marking (R207). -/
def execBreakEnd (s : State) : Host.Outcome State Fault Refusal :=
  .next (s.breakEnd)

/-- REPLY_FRAME_END: the frame of a reply has been sent (R213, R215). -/
def execReplyFrameEnd (s : State) : Host.Outcome State Fault Refusal :=
  .next (s.replyEnd)

/-- TRACE_FRAME_END: a trace frame has been sent (R195, R213). -/
def execTraceFrameEnd (s : State) : Host.Outcome State Fault Refusal :=
  .next (s.traceEnd)

end Sys2Proof.Machine
end

