-- ==== Sys2Proof/Machine/MachineEvents.lean ====
section
/-! DEFINITION. The meanings of the events of the machine side: conversions, the encoder, timers and inputs. -/

namespace Sys2Proof.Machine

/-- PART_TIME_TICK: part time adds 1 (R102). -/
def execPartTimeTick (s : State) : Host.Outcome State Fault Refusal :=
  .next (s.partTimeTick)

/-- LOAD_CONVERSION: a load conversion with its sample; a record made may be taken by an IDLE transmitter (R2, R49, R195). -/
def execLoadConversion (raw : BitVec 24) (s : State) : Host.Outcome State Fault Refusal :=
  .next ((s.loadConversion raw.toInt).kick)

/-- EXT_CONVERSION: an arm conversion (R27). -/
def execExtConversion (arm : Arm) (raw : BitVec 24) (s : State) : Host.Outcome State Fault Refusal :=
  .next (s.extConversion arm raw.toInt)

/-- ENCODER_TRANSITION: a new sample of the quadrature channels (R66, R67). -/
def execEncoderTransition (chanA : Bool) (chanB : Bool) (_up : Bool) (s : State) : Host.Outcome State Fault Refusal :=
  .next (s.encoderSample chanA chanB)

/-- SERVO_EXPIRY: an expiry of the servo timer (R72). -/
def execServoExpiry (s : State) : Host.Outcome State Fault Refusal :=
  .next (s.servoExpiry)

/-- JOG_LAPSE: the renewal time of a jog is reached (R85). -/
def execJogLapse (s : State) : Host.Outcome State Fault Refusal :=
  .next (s.jogLapse)

/-- PULL_IN_END: the pull-in end of a solenoid (R33). -/
def execPullInEnd (arm : Arm) (s : State) : Host.Outcome State Fault Refusal :=
  .next (s.pullInEnd arm)

/-- HOLD_PHASE_END: the end of an on-time or off-time of a holding solenoid (R101). -/
def execHoldPhaseEnd (arm : Arm) (s : State) : Host.Outcome State Fault Refusal :=
  .next (s.holdPhaseEnd arm)

/-- SEAT_TIMEOUT: the seat timeout of an arm (R37). -/
def execSeatTimeout (arm : Arm) (s : State) : Host.Outcome State Fault Refusal :=
  .next (s.seatTimeout arm)

/-- RELEASE_TIMEOUT: the release timeout of an arm (R46). -/
def execReleaseTimeout (arm : Arm) (s : State) : Host.Outcome State Fault Refusal :=
  .next (s.releaseTimeout arm)

/-- RAW_INPUT_CHANGE: the raw level of an input changes (R96). -/
def execRawInputChange (input : Input) (level : Bool) (us : Fin 1000) (s : State) : Host.Outcome State Fault Refusal :=
  .next (s.rawChange input level us)

/-- DEBOUNCE_END: a debounce ends (R96). -/
def execDebounceEnd (input : Input) (us : Fin 1000) (s : State) : Host.Outcome State Fault Refusal :=
  .next (s.debounceEnd input us)

end Sys2Proof.Machine
end

