-- ==== Sys2Proof/Machine/Dispatch.lean ====
section
/-! DEFINITION. The dispatch of a command to its meaning, one arm per row of spec/opcode_table.json. -/

namespace Sys2Proof.Machine

/-- The effect of a command on everything but the queue. -/
def exec (i : Instr) (s : State) : Host.Outcome State Fault Refusal :=
  match i with
  | .powerOnReset rateSelB rateSelA levels chanA chanB => Sys2Proof.Machine.execPowerOnReset rateSelB rateSelA levels chanA chanB s
  | .partTimeTick => Sys2Proof.Machine.execPartTimeTick s
  | .receiveByte byte framingError => Sys2Proof.Machine.execReceiveByte byte framingError s
  | .gapTimerExpiry => Sys2Proof.Machine.execGapTimerExpiry s
  | .halt => Sys2Proof.Machine.execHalt s
  | .breakEnd => Sys2Proof.Machine.execBreakEnd s
  | .unknownKindRequest kind tag payload => Sys2Proof.Machine.execUnknownKindRequest kind tag payload s
  | .replyFrameEnd => Sys2Proof.Machine.execReplyFrameEnd s
  | .traceFrameEnd => Sys2Proof.Machine.execTraceFrameEnd s
  | .ping tag payload => Sys2Proof.Machine.execPing tag payload s
  | .statusRead tag => Sys2Proof.Machine.execStatusRead tag s
  | .readNow tag => Sys2Proof.Machine.execReadNow tag s
  | .eventRead tag n => Sys2Proof.Machine.execEventRead tag n s
  | .restart tag => Sys2Proof.Machine.execRestart tag s
  | .inputConfig tag index polarity debounce route => Sys2Proof.Machine.execInputConfig tag index polarity debounce route s
  | .frameConfig tag fields => Sys2Proof.Machine.execFrameConfig tag fields s
  | .calWrite tag range points => Sys2Proof.Machine.execCalWrite tag range points s
  | .calRead tag range => Sys2Proof.Machine.execCalRead tag range s
  | .shuntConfig tag range expected tolerance => Sys2Proof.Machine.execShuntConfig tag range expected tolerance s
  | .loadRange tag mode => Sys2Proof.Machine.execLoadRange tag mode s
  | .tare tag => Sys2Proof.Machine.execTare tag s
  | .shuntCheck tag => Sys2Proof.Machine.execShuntCheck tag s
  | .extConfig tag fields => Sys2Proof.Machine.execExtConfig tag fields s
  | .extSeat tag select => Sys2Proof.Machine.execExtSeat tag select s
  | .extZero tag select => Sys2Proof.Machine.execExtZero tag select s
  | .extRelease tag select => Sys2Proof.Machine.execExtRelease tag select s
  | .positionZero tag => Sys2Proof.Machine.execPositionZero tag s
  | .driveOn tag => Sys2Proof.Machine.execDriveOn tag s
  | .driveOff tag => Sys2Proof.Machine.execDriveOff tag s
  | .tripClear tag => Sys2Proof.Machine.execTripClear tag s
  | .monitorTest tag => Sys2Proof.Machine.execMonitorTest tag s
  | .jog tag speed => Sys2Proof.Machine.execJog tag speed s
  | .moveTo tag target speed => Sys2Proof.Machine.execMoveTo tag target speed s
  | .stop tag => Sys2Proof.Machine.execStop tag s
  | .profileSpecWrite tag fields => Sys2Proof.Machine.execProfileSpecWrite tag fields s
  | .profileStepWrite tag slot record => Sys2Proof.Machine.execProfileStepWrite tag slot record s
  | .profileCommit tag => Sys2Proof.Machine.execProfileCommit tag s
  | .profileRead tag copy part => Sys2Proof.Machine.execProfileRead tag copy part s
  | .testStart tag => Sys2Proof.Machine.execTestStart tag s
  | .testHold tag => Sys2Proof.Machine.execTestHold tag s
  | .testResume tag => Sys2Proof.Machine.execTestResume tag s
  | .testAbort tag => Sys2Proof.Machine.execTestAbort tag s
  | .resultRead tag => Sys2Proof.Machine.execResultRead tag s
  | .traceConfig tag streaming base => Sys2Proof.Machine.execTraceConfig tag streaming base s
  | .loadConversion raw => Sys2Proof.Machine.execLoadConversion raw s
  | .extConversion arm raw => Sys2Proof.Machine.execExtConversion arm raw s
  | .encoderTransition chanA chanB up => Sys2Proof.Machine.execEncoderTransition chanA chanB up s
  | .servoExpiry => Sys2Proof.Machine.execServoExpiry s
  | .jogLapse => Sys2Proof.Machine.execJogLapse s
  | .pullInEnd arm => Sys2Proof.Machine.execPullInEnd arm s
  | .holdPhaseEnd arm => Sys2Proof.Machine.execHoldPhaseEnd arm s
  | .seatTimeout arm => Sys2Proof.Machine.execSeatTimeout arm s
  | .releaseTimeout arm => Sys2Proof.Machine.execReleaseTimeout arm s
  | .rawInputChange input level us => Sys2Proof.Machine.execRawInputChange input level us s
  | .debounceEnd input us => Sys2Proof.Machine.execDebounceEnd input us s

end Sys2Proof.Machine
end

