-- ==== Sys2Proof/Safety.lean ====
section
/-! DEFINITION. What a good state is, in the terms that claims use: the laws that the spec states of the whole part, the
command of a request, and the shape of a state after a reply. The model has no fault and no refusal, so every step answers a next state. -/

namespace Sys2Proof.Machine

/-! ### Laws of the whole part -/

/-- The laws of the drive enable chain (R70, R112, R113, R154, R160, R162): while the chain is OPEN the servo is DISABLED and
the speed word and velocity command are 0; a test state holds only in CLOSED; a CLOSED chain has no trip; the trip set has no
repeats and a first-out exactly when it is not empty; guard mode is on in CLOSED only; XHS is in STEP in RUNNING alone and in
RETURN in RETURNING alone. -/
structure ChainLaw (s : State) : Prop where
  servo : s.dec.chain = .opened ↔ s.xhs.mode = .disabled
  word : s.dec.chain = .opened → s.xhs.speedWord = 0
  velocity : s.dec.chain = .opened → s.xhs.velocity = 0
  test : s.testing = true → s.dec.chain = .closed
  trips : s.dec.chain = .closed → s.dec.trips = []
  nodup : s.dec.trips.Nodup
  firstOut : s.dec.firstOut = none ↔ s.dec.trips = []
  guard : s.dec.guardMode = true → s.dec.chain = .closed
  stepMode : s.xhs.mode = .step → s.tsq.state = .running
  returnMode : s.xhs.mode = .return → s.tsq.state = .returning

/-- The bounds of the event queue (R103) and of the trace buffer (R193). -/
def QueueLaw (s : State) : Prop := s.evq.entries.length ≤ eventCapacity ∧ s.trb.buffer.length ≤ traceCapacity

/-- The decimation bases (R198). -/
def decimationBases : List Nat := [1, 2, 4, 8, 16, 32, 64]

/-- A profile copy names one of the decimation bases (section 7.2, field 21). -/
def baseHeld : Option Profile → Prop
  | none => True
  | some p => p.spec.traceBase.toNat ∈ decimationBases

/-- The law for the factor (R196): a power of two between the base and 64, the base being one of the seven; the profile copies
that can set the base name one of the seven. -/
def TraceLaw (s : State) : Prop :=
  s.trb.base ∈ decimationBases ∧ s.trb.factor ∈ decimationBases ∧ s.trb.base ≤ s.trb.factor ∧
  baseHeld s.tsq.active ∧ baseHeld s.tsq.pendingCopy

/-- The debounce times in force (R97): ESTOP 1 ms with polarity NORMAL; GUARD and the limits at most 5 ms. -/
def DebounceLaw (s : State) : Prop :=
  s.dio.inputs.estop.debounce = 1 ∧ s.dio.inputs.estop.inverted = false ∧ s.dio.inputs.guard.debounce ≤ 5 ∧
  s.dio.inputs.limitUp.debounce ≤ 5 ∧ s.dio.inputs.limitDown.debounce ≤ 5

/-- Outside a test state the strain source is the one that the averaging set gives, with offset 0 (R42, R56). -/
def SourceLaw (s : State) : Prop :=
  s.testing = false → s.smp.source = sourceOfSet s.averagingSet ∧ s.smp.sourceOffset = 0

/-! ### Requests as commands -/

/-- The command of the table that stands for a request with a tag. -/
def Request.command (tag : Byte) : Request → Instr
  | .ping payload => .ping tag payload
  | .statusRead => .statusRead tag
  | .readNow => .readNow tag
  | .eventRead n => .eventRead tag n
  | .restart => .restart tag
  | .inputConfig index polarity debounce route => .inputConfig tag index polarity debounce route
  | .frameConfig fields => .frameConfig tag fields
  | .calWrite range points => .calWrite tag range points
  | .calRead range => .calRead tag range
  | .shuntConfig range expected tolerance => .shuntConfig tag range expected tolerance
  | .loadRange mode => .loadRange tag mode
  | .tare => .tare tag
  | .shuntCheck => .shuntCheck tag
  | .extConfig fields => .extConfig tag fields
  | .extSeat select => .extSeat tag select
  | .extZero select => .extZero tag select
  | .extRelease select => .extRelease tag select
  | .positionZero => .positionZero tag
  | .driveOn => .driveOn tag
  | .driveOff => .driveOff tag
  | .tripClear => .tripClear tag
  | .monitorTest => .monitorTest tag
  | .jog speed => .jog tag speed
  | .moveTo target speed => .moveTo tag target speed
  | .stop => .stop tag
  | .profileSpecWrite fields => .profileSpecWrite tag fields
  | .profileStepWrite slot record => .profileStepWrite tag slot record
  | .profileCommit => .profileCommit tag
  | .profileRead copy part => .profileRead tag copy part
  | .testStart => .testStart tag
  | .testHold => .testHold tag
  | .testResume => .testResume tag
  | .testAbort => .testAbort tag
  | .resultRead => .resultRead tag
  | .traceConfig streaming base => .traceConfig tag streaming base

/-! ### Replies -/

/-- Both slots of the link are empty, so that a request is dispatched at its arrival (R208, R209). -/
def Lnk.free (l : Lnk) : Prop := l.receiveSlot = none ∧ l.replySlot = none

/-- LNK with a reply made: in the reply slot, and begun by an IDLE transmitter (R209, R213). -/
def Lnk.replying (l : Lnk) (f : Frame) : Lnk :=
  { l with replySlot := some f, transmitter := if l.transmitter = .idle then .reply else l.transmitter }

/-- A state with the acknowledgement of a request of a kind and tag: kind + 0x80, the tag, the status header of that state and
the answer (R210, R211). -/
def State.acked (kind tag : Byte) (answer : List Byte) (t : State) : State :=
  { t with lnk := t.lnk.replying ⟨ackKind kind, tag, t.statusHeader ++ answer⟩ }

/-- A state with the refusal of a request of a kind and tag: 0xFE, the tag, the status header of that state, the refused kind,
the reason code and the detail (R210 to R212, R219). -/
def State.turnedAway (kind tag : Byte) (reason : Reason) (detail : Half) (t : State) : State :=
  let f : Frame := ⟨refusalKind, tag, t.statusHeader ++ kind :: refusalCode reason :: halfBytes detail⟩
  { t with lnk := t.lnk.replying f }

end Sys2Proof.Machine
end

