-- ==== Sys2Proof/Certificates/Slice0/Obligations.lean ====
section
/-! DEFINITION. The statements about the model. A request's statement gives its whole next state on a free link: the reply in
the reply slot (`State.acked`, `State.turnedAway`) and every item that changes; every other item is as before. -/

open Sys2Proof Sys2Proof.Machine

/-! ### The queue of commands and the laws of the whole part -/

/-- A step with a command at the front of the queue is exec of that command on the state with the queue's rest. On an empty
queue a step leaves the part as it is. Both are the model's choice (notes/assumptions/4.md): the spec has no queue of
commands. -/
def Obligations.StepTakesFrontCommand : Prop :=
  (∀ (s : State) (c : Instr) (rest : List Instr),
     step { s with pending := c :: rest } = exec c { s with pending := rest }) ∧
  (∀ s : State, s.pending = [] → step s = .next s)

/-- The laws of the drive enable chain, the bounds of the event queue and trace buffer, the law of the decimation factor,
the debounce times in force and the law of the strain source hold at the state after reset (whose pin levels are the model's
choice, notes/assumptions/2.md). -/
def Obligations.ResetSatisfiesLaws : Prop :=
  ChainLaw State.reset ∧ QueueLaw State.reset ∧ TraceLaw State.reset ∧ DebounceLaw State.reset ∧ SourceLaw State.reset

/-- From every state that satisfies the chain law, every step gives a state that satisfies it: while the chain is OPEN the
servo is DISABLED with velocity command and speed word 0; a test state holds only while the chain is CLOSED; a CLOSED chain
has an empty trip set; the trip set has no repeats and a first-out exactly when it is not empty; guard mode is on in CLOSED
only; the servo is in STEP in RUNNING alone and in RETURN in RETURNING alone. -/
def Obligations.StepKeepsChainLaw : Prop :=
  ∀ s t : State, ChainLaw s → step s = .next t → ChainLaw t

/-- Every step keeps each of five laws: the event queue holds at most 32 entries and the trace buffer at most 512 records;
the decimation factor is a power of two between the base and 64; ESTOP has debounce time 1 ms and polarity NORMAL, GUARD and
the limits at most 5 ms; in a test state the buffer holds records of strictly rising sample index, none above the last test
index; outside a test state the strain source is the one that the averaging set gives, with offset 0. -/
def Obligations.StepKeepsBounds : Prop :=
  (∀ s t : State, QueueLaw s → step s = .next t → QueueLaw t) ∧
  (∀ s t : State, TraceLaw s → step s = .next t → TraceLaw t) ∧
  (∀ s t : State, DebounceLaw s → step s = .next t → DebounceLaw t) ∧
  (let ordered (s : State) : Prop :=
     s.testing = true →
       List.Pairwise (fun a b : TraceRecord => a.sample.index.toNat < b.sample.index.toNat) s.trb.buffer ∧
       ∀ r ∈ s.trb.buffer, ∃ i : Word, s.trb.lastIndex = some i ∧ r.sample.index.toNat ≤ i.toNat
   ∀ s t : State, ordered s → step s = .next t → ordered t) ∧
  (∀ s t : State, SourceLaw s → step s = .next t → SourceLaw t)

/-! ### The message link -/

/-- For every well-formed request of the catalogue and every tag, decoding the frame of that request gives that request,
with every field at every value. -/
def Obligations.RequestFramesDecode : Prop :=
  ∀ (r : Request) (tag : Byte), r.wellFormed = true → decodeFrame (r.frame tag) = .request r

/-- From HUNT and outside a break, the bytes of a frame of at most 240 payload bytes, taken one command at a time, end in
the state that the arrival of that frame gives, with the receiver in HUNT. When the last two bytes are not the CRC of the
others, the frame is discarded: the state is as before. -/
def Obligations.FrameBytesReceived : Prop :=
  (∀ (s : State) (f : Frame), f.payload.length ≤ 240 → s.lnk.inBreak = false → s.lnk.receiver = .hunt →
     Host.Core.run Sys2Proof.core f.bytes.length
         { s with pending := f.bytes.map (fun b => Instr.receiveByte b false) ++ s.pending } =
       .next (s.frameArrives f)) ∧
  (∀ (s : State) (f : Frame) (high low : Byte), f.payload.length ≤ 240 → s.lnk.inBreak = false →
     s.lnk.receiver = .hunt → high ++ low ≠ f.crc →
     let bytes := startByte :: f.lengthByte :: f.kind :: f.tag :: (f.payload ++ [high, low])
     Host.Core.run Sys2Proof.core bytes.length
         { s with pending := bytes.map (fun b => Instr.receiveByte b false) ++ s.pending } =
       .next s)

/-- Outside a break, a byte with a framing error puts the receiver in HUNT, and a byte that does not complete a frame moves
it by its position, with nothing else changed. A gap timer expiry puts it in HUNT. The end of a break clears the break mark
and puts it in HUNT. In a break a byte changes nothing. A BREAK_END with no break to end changes nothing (the model's
choice, notes/assumptions/7.md). -/
def Obligations.ReceiverPositions : Prop :=
  (∀ (s : State) (b : Byte) (p : Receiver), s.lnk.inBreak = false → s.lnk.receiver = p →
     exec (.receiveByte b true) s = .next { s with lnk := { s.lnk with receiver := .hunt } } ∧
     (match p with
      | .hunt => exec (.receiveByte b false) s =
          .next { s with lnk := { s.lnk with receiver := if b = 0xC5#8 then .length else .hunt } }
      | .length => exec (.receiveByte b false) s =
          .next { s with lnk := { s.lnk with receiver := if b.toNat ≤ 240 then .kind b else .hunt } }
      | .kind n => exec (.receiveByte b false) s = .next { s with lnk := { s.lnk with receiver := .tag n b } }
      | .tag n k => exec (.receiveByte b false) s =
          .next { s with lnk := { s.lnk with receiver := if n = 0 then .crcHigh n k b [] else .payload n k b [] } }
      | .payload n k g got => exec (.receiveByte b false) s =
          .next { s with lnk := { s.lnk with receiver :=
            if got.length + 1 = n.toNat then .crcHigh n k g (got ++ [b]) else .payload n k g (got ++ [b]) } }
      | .crcHigh n k g got => exec (.receiveByte b false) s =
          .next { s with lnk := { s.lnk with receiver := .crcLow n k g got b } }
      | .crcLow n k g got high => high ++ b ≠ crcOf (n :: k :: g :: got) →
          exec (.receiveByte b false) s = .next { s with lnk := { s.lnk with receiver := .hunt } })) ∧
  (∀ s : State,
     exec .gapTimerExpiry s = .next { s with lnk := { s.lnk with receiver := .hunt } } ∧
     (s.lnk.inBreak = true →
       exec .breakEnd s = .next { s with lnk := { s.lnk with inBreak := false, receiver := .hunt } }) ∧
     (s.lnk.inBreak = false → exec .breakEnd s = .next s) ∧
     (s.lnk.inBreak = true →
       ∀ (b : Byte) (framingError : Bool), exec (.receiveByte b framingError) s = .next s))

/-- A halt outside a break marks the break, discards the partial frame, reports HALT to DEC, and then abandons a shunt check
with SHUNT_DONE(ABANDONED) and a settle count of 8 when SHUNT_EN was on. In a break it changes nothing (the model's reading
of one report for each break, notes/assumptions/7.md). -/
def Obligations.HaltEffect : Prop :=
  ∀ s : State, exec .halt s = .next (
    if s.lnk.inBreak then s
    else
      let t := State.trip .halt { s with lnk := { s.lnk with inBreak := true, receiver := .hunt } }
      if s.ldc.shunt.isSome then
        State.put (.shuntDone .abandoned s.ldc.range none)
          { t with ldc := { s.ldc with shunt := none, shuntEn := false,
                                       settle := if s.ldc.shuntEn then 8 else s.ldc.settle } }
      else t)

/-- Every well-formed request command on a link with both slots empty gives a next state in which the link holds one reply
and has changed in no other way: the reply carries the tag and the status header of the state after the owning block has
acted, and it is an acknowledgement of kind + 0x80 or a refusal of kind 0xFE that names the request's kind and one of the
reasons. That a request command stands for its complete frame at the receive slot is the model's choice
(notes/assumptions/3.md). -/
def Obligations.RequestGetsOneReply : Prop :=
  ∀ (s : State) (r : Request) (tag : Byte), s.lnk.free → r.wellFormed = true →
    ∃ (t : State) (f : Frame), exec (Request.command tag r) s = .next t ∧
      t.pending = s.pending ∧ t.lnk = s.lnk.replying f ∧ f.tag = tag ∧
      f.payload.take 4 = [natByte t.evq.entries.length, chainCode t.dec.chain, testCode t.tsq.state,
        firstOutCode t.dec.firstOut] ∧
      (f.kind = r.kind + 0x80#8 ∨
        (f.kind = 0xFE#8 ∧ f.payload.length = 8 ∧ f.payload[4]? = some r.kind ∧
          ∃ reason : Reason, f.payload[5]? = some (refusalCode reason)))

/-- With the reply slot occupied and the transmitter at work, a request waits in an empty receive slot; at an occupied
receive slot it is discarded. On a free link a frame of a kind outside 0x01 to 0x23 is refused UNKNOWN_KIND. Of a known
kind, a frame whose length is the one that R217 gives the kind (at most 236 for PING, 2 + 8 × the count byte for CAL_WRITE)
is read as a request of that kind, and a frame of any other length is refused BAD_LENGTH. -/
def Obligations.RequestsTurnedAwayByLink : Prop :=
  (∀ (s : State) (r : Request) (tag : Byte),
     (∀ f : Frame, s.lnk.receiveSlot = none → s.lnk.replySlot = some f → s.lnk.transmitter ≠ .idle →
       exec (Request.command tag r) s = .next { s with lnk := { s.lnk with receiveSlot := some (r.frame tag) } }) ∧
     (∀ f : Frame, s.lnk.receiveSlot = some f → exec (Request.command tag r) s = .next s)) ∧
  (∀ (s : State) (kind tag : Byte) (payload : List Byte), s.lnk.free →
     let fixed : List (Nat × Nat) :=
       [(0x02, 0), (0x03, 0), (0x04, 1), (0x05, 0), (0x06, 4), (0x07, 48), (0x09, 1), (0x0A, 9), (0x0B, 1), (0x0C, 0),
        (0x0D, 0), (0x0E, 36), (0x0F, 1), (0x10, 1), (0x11, 1), (0x12, 0), (0x13, 0), (0x14, 0), (0x15, 0), (0x16, 0),
        (0x17, 4), (0x18, 8), (0x19, 0), (0x1A, 88), (0x1B, 20), (0x1C, 0), (0x1D, 2), (0x1E, 0), (0x1F, 0), (0x20, 0),
        (0x21, 0), (0x22, 0), (0x23, 2)]
     let rightLength : Prop :=
       (kind.toNat = 0x01 ∧ payload.length ≤ 236) ∨
       (kind.toNat = 0x08 ∧ ∃ (range count : Byte) (points : List Byte),
         payload = range :: count :: points ∧ points.length = 8 * count.toNat) ∨
       (kind.toNat, payload.length) ∈ fixed
     (¬ (1 ≤ kind.toNat ∧ kind.toNat ≤ 0x23) →
       exec (.unknownKindRequest kind tag payload) s = .next (s.turnedAway kind tag .unknownKind 0)) ∧
     (1 ≤ kind.toNat → kind.toNat ≤ 0x23 →
       (rightLength → ∃ r : Request, decodeFrame ⟨kind, tag, payload⟩ = .request r ∧ r.kind = kind) ∧
       (¬ rightLength → s.frameArrives ⟨kind, tag, payload⟩ = s.turnedAway kind tag .badLength 0)))

/-- At the end of a reply frame the restart takes effect when the frame acknowledges RESTART; otherwise the reply slot is
freed, a waiting request is dispatched and answered, and with none waiting the transmitter takes the record offered or
becomes IDLE. At the end of the trace frame of the oldest record, the record leaves the buffer and the factor halves at a
fill of 64 or less above the base; a record that TEST_START has discarded leaves nothing behind (its mark is the model's
own, notes/assumptions/21.md). The transmitter then begins a waiting reply, else the next record, else becomes IDLE. A trace
frame has kind 0xF1, tag 0 and the 24 bytes of its record at their offsets; a number that does not fit its field is a free
value (notes/assumptions/1.md). -/
def Obligations.FrameEnds : Prop :=
  (∀ (s : State) (f : Frame), s.lnk.transmitter = .reply → s.lnk.replySlot = some f →
     let freed := { s with lnk := { s.lnk with receiveSlot := none, replySlot := none, transmitter := .idle } }
     (f.kind = 0x85#8 → exec .replyFrameEnd s = .next s.restart) ∧
     (f.kind ≠ 0x85#8 →
       (∀ g : Frame, s.lnk.receiveSlot = some g → exec .replyFrameEnd s = .next (freed.frameArrives g)) ∧
       (s.lnk.receiveSlot = none → exec .replyFrameEnd s = .next (
         match s.trb.inFlight, s.trb.buffer with
         | .no, record :: _ =>
           { freed with trb := { s.trb with inFlight := .oldest }, lnk := { freed.lnk with transmitter := .trace record } }
         | _, _ => freed)))) ∧
  (∀ (s : State) (sent : TraceRecord), s.lnk.transmitter = .trace sent →
     let chosen (t : State) : State :=
       match s.lnk.replySlot, t.trb.buffer with
       | some _, _ => { t with lnk := { s.lnk with transmitter := .reply } }
       | none, record :: _ =>
         { t with trb := { t.trb with inFlight := .oldest }, lnk := { s.lnk with transmitter := .trace record } }
       | none, [] => { t with lnk := { s.lnk with transmitter := .idle } }
     let rest := s.trb.buffer.tail
     let removed := { s with trb := { s.trb with buffer := rest, inFlight := .no } }
     let halved :=
       if rest.length ≤ 64 ∧ s.trb.base < s.trb.factor then
         State.put (.decim (s.trb.factor / 2)) { removed with trb := { removed.trb with factor := s.trb.factor / 2 } }
       else removed
     (s.trb.inFlight = .oldest → exec .traceFrameEnd s = .next (chosen halved)) ∧
     (s.trb.inFlight = .discarded →
       exec .traceFrameEnd s = .next (chosen { s with trb := { s.trb with inFlight := .no } }))) ∧
  (∀ r : TraceRecord,
     let a := r.frame.payload
     let number (x : Option Int) : Word :=
       match x with
       | some v => signedWord v
       | none => 0
     let m := r.sample
     r.frame.kind = 0xF1#8 ∧ r.frame.tag = 0 ∧ a.length = 24 ∧
     wordAt a 0 = m.index ∧ wordAt a 4 = signedWord m.position ∧ wordAt a 8 = number m.load ∧
     wordAt a 12 = number m.stress ∧ wordAt a 16 = number m.strain ∧
     (byteAt a 20).toNat = (match m.source with | .none => 0 | .extAvg => 1 | .extA => 2 | .extB => 3 | .xhead => 4) ∧
     byteAt a 21 = (match m.step with | some k => BitVec.ofNat 8 k | none => 0xFF#8) ∧
     (∀ n : Nat, n < 8 → (byteAt a 22).getLsbD n = [m.held, m.clamped, m.handover, m.forced, r.gap, m.load.isSome,
       m.stress.isSome, m.strain.isSome].getD n false) ∧
     byteAt a 23 = BitVec.ofNat 8 r.factor)

/-! ### The resets -/

/-- POWER_ON_RESET with the straps, the ten input levels and the two encoder channels as operands sets every item of every
block, and the evaluation of the starting levels latches ESTOP, LIMIT_UP and LIMIT_DOWN in this order. The values of the
items that are the model's own (composed, composedAtStart, subMs, configs), the control class POSITION, and 0 for a cleared
rate demand and effective rate are the model's choice (notes/assumptions/2.md, 5.md, 6.md, 12.md). -/
def Obligations.PowerOnResetValues : Prop :=
  ∀ (s : State) (selB selA : Bool) (levels : BitVec 10) (chanA chanB : Bool),
    let input (bit debounce : Nat) : InputRec :=
      { inverted := false, debounce := debounce, queued := false, level := levels.getLsbD bit, pendingSince := none,
        raw := levels.getLsbD bit }
    let causes : List TripCause :=
      (if levels.getLsbD 0 then [] else [.estop]) ++ (if levels.getLsbD 2 then [.limitUp] else []) ++
      (if levels.getLsbD 3 then [.limitDown] else [])
    let arm : ArmRec :=
      { state := .opened, enabled := false, scale := none, span := none, slipThreshold := none, lastRaw := none,
        zeroCode := none, capture := none, lastElong := none, slip := false, overrange := false, solenoid := .off,
        timer := none }
    let slot : StagedStep := { record := ⟨0, 0, 0, 0, 0, 0, 0, 0, 0⟩, written := false }
    exec (.powerOnReset selB selA levels chanA chanB) s = .next
      { dio :=
          { inputs :=
              { estop := input 0 1, guard := input 1 5, limitUp := input 2 5, limitDown := input 3 5,
                gripUpper := input 4 10, gripLower := input 5 10, extASeat := input 6 10, extBSeat := input 7 10,
                driveReady := input 8 10, aux := input 9 10 }
            partTime := 0, subMs := 0, configs := s.dio.configs }
        evq := { entries := ⟨.startUp false, 0⟩ :: causes.map (fun c => ⟨.trip c, 0⟩), overflow := false }
        ldc :=
          { fineTable := [], wideTable := [], mode := .auto, range := .wide, settle := 2, down := 0, tare := 0,
            tareProgress := none, fineShunt := ⟨0, 0⟩, wideShunt := ⟨0, 0⟩, shunt := none, shuntEn := false,
            lastGood := none }
        xtc :=
          { armA := arm, armB := arm, pullInTime := 200, holdOnTime := 300, holdOffTime := 700, seatTimeout := 600,
            releaseTimeout := 300 }
        smp :=
          { index := 0, source := .none, sourceOffset := 0, zeroRef := 0, last := none, handoverMark := false,
            forcedMark := false, composed := 0, composedAtStart := 0 }
        xhs :=
          { count := 0, zeroCount := 0, chanA := chanA, chanB := chanB, mode := .disabled, controlClass := .position,
            posAcc := 0, rateAcc := .value 0, effRate := 0, transition := none, velocity := 0, speedWord := 0,
            modelVelocity := 0, modelAcc := 0, trackCount := 0, monitorProven := false, monitor := none,
            escapeUp := false, escapeDown := false, jogRenewal := none, target := none,
            config :=
              { maxSpeed := 100000, guardSpeed := 6000, fullScale := 600000, softLower := -12000000,
                softUpper := 12000000, trackTolerance := 20000, tau := 20000, kpPos := 600, kStrain := 500,
                kStress := 200, compliance := 0, frameOverload := 6300000 } }
        dec :=
          { chain := .opened, trips := causes, firstOut := causes.head?, guardMode := false, overloadPresent := false }
        tsq :=
          { state := .idle, step := none, stepTime := 0, startPosition := 0, prevLoaded := none, breakFound := false,
            fracture := none, staged := { spec := none, slots := Vector.replicate 12 slot }, active := none,
            pendingCopy := none }
        res :=
          { items :=
              { fitOpen := true, sums := ⟨0, 0, 0, 0, 0⟩, rpSearch := .waiting, prevSearch := none, yieldSearch := .upper,
                candidate := none, declared := none, fmaxSample := none, lastTaken := none, firstYield := none,
                record := ⟨none, none, none, none, false, none, none, none, none, none, none, none, none, none, none⟩ }
            retained := none }
        trb :=
          { streaming := false, base := 1, factor := 1, buffer := [], inFlight := .no, gap := false, lastIndex := none }
        lnk :=
          { rateCode := BitVec.ofNat 2 (2 * selB.toNat + selA.toNat), receiver := .hunt, inBreak := false,
            receiveSlot := none, replySlot := none, transmitter := .idle }
        pending := s.pending }

/-- At the end of the frame of its acknowledgement RESTART takes effect: inputs take their pin levels, part time is 0, the
event queue holds START_UP and the trips of the starting levels, and each block keeps and sets the items that its rule
names. The values of the model's own items are the model's choice (notes/assumptions/2.md, 5.md, 6.md, 12.md). -/
def Obligations.RestartTakesEffect : Prop :=
  ∀ (s : State) (f : Frame), s.lnk.transmitter = .reply → s.lnk.replySlot = some f → f.kind = 0x85#8 →
    let asserted (i : Input) : Bool := (s.dio.inputs.get i).raw != (s.dio.inputs.get i).inverted
    let causes : List TripCause :=
      (if asserted .estop then [] else [.estop]) ++ (if asserted .limitUp then [.limitUp] else []) ++
      (if asserted .limitDown then [.limitDown] else [])
    let arm (r : ArmRec) : ArmRec :=
      { r with state := .opened, solenoid := .off, zeroCode := none, capture := none, lastElong := none, timer := none,
               slip := false, overrange := false }
    ∃ t : State, exec .replyFrameEnd s = .next t ∧
      (∀ i : Input, t.dio.inputs.get i =
        { s.dio.inputs.get i with level := (s.dio.inputs.get i).raw, pendingSince := none }) ∧
      t.dio.partTime = 0 ∧ t.dio.subMs = 0 ∧ t.dio.configs = s.dio.configs ∧
      t.evq = { entries := ⟨.startUp true, 0⟩ :: causes.map (fun c => ⟨.trip c, 0⟩), overflow := false } ∧
      t.ldc = { s.ldc with range := .wide, tareProgress := none, shunt := none, shuntEn := false, tare := 0, down := 0,
                           lastGood := none, settle := if s.ldc.shuntEn then 8 else 2 } ∧
      t.xtc = { s.xtc with armA := arm s.xtc.armA, armB := arm s.xtc.armB } ∧
      t.smp = State.reset.smp ∧
      t.xhs = { State.reset.xhs with
                  count := s.xhs.count, zeroCount := s.xhs.zeroCount, chanA := s.xhs.chanA, chanB := s.xhs.chanB,
                  config := s.xhs.config, controlClass := s.xhs.controlClass, posAcc := s.position * 12000,
                  modelAcc := s.position * 12000 } ∧
      t.dec = { chain := .opened, trips := causes, firstOut := causes.head?, guardMode := false, overloadPresent := false } ∧
      t.tsq = { State.reset.tsq with staged := s.tsq.staged, active := s.tsq.active } ∧
      t.res = State.reset.res ∧ t.trb = State.reset.trb ∧
      t.lnk = { State.reset.lnk with rateCode := s.lnk.rateCode } ∧ t.pending = s.pending

/-! ### Reading the part -/

/-- On a free link PING answers its payload, STATUS_READ the 8-byte status, RESULT_READ the result record, and RESTART the
status header alone; none of them changes anything but the reply. The 100 bytes of a result record, with texts of at most 16
and 12 characters, hold the presence word and every field at its offset, an absent one as zero bytes; a number that does not
fit its field is a free value (notes/assumptions/1.md). The bits of a trip bitmap above the ten causes as 0 are the model's
choice (notes/assumptions/27.md). -/
def Obligations.ReadsAnswer : Prop :=
  (∀ (s : State) (tag : Byte), s.lnk.free →
     (∀ payload : List Byte, payload.length ≤ 236 → exec (.ping tag payload) s = .next (s.acked 0x01 tag payload)) ∧
     exec (.statusRead tag) s = .next (s.acked 0x02 tag
       (s.lnk.rateCode.setWidth 8 :: (halfBytes (tripBitmap s.dec.trips) ++
         [holdCode s.tsq.state, endCode s.tsq.state, (s.tsq.step.map natByte).getD 0xFF,
          boolByte s.tsq.pendingCopy.isSome, boolByte s.evq.overflow]))) ∧
     exec (.resultRead tag) s = .next (s.acked 0x22 tag s.res.items.record.bytes)) ∧
  (∀ (s : State) (tag : Byte), s.lnk.free → exec (.restart tag) s = .next (s.acked 0x05 tag [])) ∧
  (∀ r : ResultRecord, (∀ x : List Byte, r.specimen = some x → x.length ≤ 16) →
     (∀ x : List Byte, r.cast = some x → x.length ≤ 12) →
     let a := r.bytes
     let number (x : Option Int) : Word :=
       match x with
       | some v => signedWord v
       | none => 0
     let index (x : Option Word) : Word :=
       match x with
       | some v => v
       | none => 0
     let text (size : Nat) (x : Option (List Byte)) : List Byte :=
       match x with
       | some v => BitVec.ofNat 8 v.length :: (v ++ List.replicate (size - v.length) 0)
       | none => List.replicate (size + 1) 0
     a.length = 100 ∧
     (∀ n : Nat, n < 16 → (halfAt a 0).getLsbD n =
       [r.specimen.isSome, r.cast.isSome, r.e.isSome, r.rp.isSome, r.rpWindow, r.reh.isSome, r.rel.isSome, r.ae.isSome,
        r.fmax.isSome, r.rm.isSome, r.ag.isSome, r.a.isSome, r.fracture.isSome, r.reason.isSome,
        r.final.isSome].getD n false) ∧
     bytesAt a 2 17 = text 16 r.specimen ∧ bytesAt a 19 13 = text 12 r.cast ∧
     wordAt a 32 = number (r.e.map fun f => f.e) ∧
     (byteAt a 36).toNat =
       (match r.e with
        | none => 0
        | some f => match f.basis with | .fit => 1 | .nominal => 2 | .rejected => 3) ∧
     wordAt a 37 = index (r.e.map fun f => BitVec.ofNat 32 f.n) ∧
     wordAt a 41 = number (r.rp.map fun f => f.rp) ∧ wordAt a 45 = number (r.rp.map fun f => f.strain) ∧
     wordAt a 49 = index (r.rp.map fun f => f.index) ∧
     byteAt a 53 = (match r.rp with | none => 0 | some f => sourceCode f.source) ∧
     wordAt a 54 = number (r.reh.map fun f => f.stress) ∧ wordAt a 58 = number (r.reh.map fun f => f.strain) ∧
     wordAt a 62 = index (r.reh.map fun f => f.index) ∧
     wordAt a 66 = number r.rel ∧ wordAt a 70 = number r.ae ∧
     wordAt a 74 = number (r.fmax.map fun f => f.load) ∧ wordAt a 78 = index (r.fmax.map fun f => f.index) ∧
     wordAt a 82 = number r.rm ∧ wordAt a 86 = number r.ag ∧ wordAt a 90 = number r.a ∧
     wordAt a 94 = index r.fracture ∧
     (byteAt a 98).toNat =
       (match r.reason with
        | none => 0
        | some e => match e with | .lastStep => 1 | .break => 2 | .abortRequest => 3 | .trip => 4 | .halt => 5) ∧
     (byteAt a 99).toNat = (match r.final with | none => 0 | some true => 1 | some false => 2))

/-- READ_NOW answers 81 bytes that hold the last sample, the levels, outputs, solenoids, arms with their flags and presence
bits, source, trips, test, range flags, servo and trace values at their offsets, and changes nothing but the reply. Bit n of
a trip bitmap is set exactly when the cause of code n + 1 is in the set. A number that does not fit its field is a free
value (notes/assumptions/1.md). Bit n of a flag byte is the n-th mark of its list. That the bits without a name are 0, and
that GAP of the last sample is clear, are the model's choice (notes/assumptions/27.md, 28.md). -/
def Obligations.ReadNowLayout : Prop :=
  (∀ (s : State) (tag : Byte), s.lnk.free → ∃ a : List Byte,
     exec (.readNow tag) s = .next (s.acked 0x03 tag a) ∧ a.length = 81 ∧
     (match s.smp.last with
      | none => a.take 24 = List.replicate 23 0 ++ [0xFF]
      | some l => wordAt a 0 = l.sample.index ∧ wordAt a 4 = signedWord l.sample.position ∧
          wordAt a 8 = (l.sample.load.map signedWord).getD 0 ∧ wordAt a 12 = (l.sample.stress.map signedWord).getD 0 ∧
          wordAt a 16 = (l.sample.strain.map signedWord).getD 0 ∧ byteAt a 20 = sourceCode l.sample.source ∧
          byteAt a 21 = (l.sample.step.map natByte).getD 0xFF ∧
          byteAt a 22 = flagByte [l.sample.held, l.sample.clamped, l.sample.handover, l.sample.forced, false,
            l.sample.load.isSome, l.sample.stress.isSome, l.sample.strain.isSome] ∧
          byteAt a 23 = 0) ∧
     halfAt a 24 = flagHalf (allInputs.map fun i => s.asserted i) ∧
     byteAt a 26 = flagByte [s.ldc.shuntEn, decide (s.evq.entries ≠ [])] ∧
     byteAt a 27 = solenoidCode s.xtc.armA.solenoid ∧ byteAt a 28 = solenoidCode s.xtc.armB.solenoid ∧
     byteAt a 29 = armStateCode s.xtc.armA.state ∧ byteAt a 30 = armStateCode s.xtc.armB.state ∧
     wordAt a 31 = (s.xtc.armA.lastRaw.map signedWord).getD 0 ∧ wordAt a 35 = (s.xtc.armB.lastRaw.map signedWord).getD 0 ∧
     wordAt a 39 = (s.xtc.armA.lastElong.map signedWord).getD 0 ∧
     wordAt a 43 = (s.xtc.armB.lastElong.map signedWord).getD 0 ∧
     byteAt a 47 = flagByte [s.xtc.armA.slip, s.xtc.armA.overrange, s.xtc.armB.slip, s.xtc.armB.overrange,
       s.xtc.armA.lastRaw.isSome, s.xtc.armB.lastRaw.isSome, s.xtc.armA.lastElong.isSome, s.xtc.armB.lastElong.isSome] ∧
     byteAt a 48 = sourceCode s.smp.source ∧ wordAt a 49 = signedWord s.smp.sourceOffset ∧
     halfAt a 53 = tripBitmap s.dec.trips ∧ byteAt a 55 = flagByte [s.dec.guardMode, s.xhs.escapeUp, s.xhs.escapeDown] ∧
     byteAt a 56 = holdCode s.tsq.state ∧ byteAt a 57 = endCode s.tsq.state ∧
     byteAt a 58 = (s.tsq.step.map natByte).getD 0xFF ∧ wordAt a 59 = BitVec.ofNat 32 s.tsq.stepTime ∧
     byteAt a 63 = boolByte s.tsq.pendingCopy.isSome ∧ byteAt a 64 = rangeModeCode s.ldc.mode ∧
     byteAt a 65 = flagByte [decide (s.ldc.range = .wide), decide (s.ldc.fineTable ≠ []), decide (s.ldc.wideTable ≠ []),
       s.ldc.tareProgress.isSome, s.ldc.shunt.isSome] ∧
     wordAt a 66 = signedWord s.ldc.tare ∧ byteAt a 70 = servoModeCode s.xhs.mode ∧
     wordAt a 71 = signedWord s.xhs.velocity ∧ byteAt a 75 = flagByte [s.xhs.monitorProven, s.xhs.monitor.isSome] ∧
     byteAt a 76 = flagByte [s.trb.streaming, s.trb.gap] ∧ byteAt a 77 = natByte s.trb.base ∧
     byteAt a 78 = natByte s.trb.factor ∧ halfAt a 79 = BitVec.ofNat 16 s.trb.buffer.length) ∧
  (∀ (trips : List TripCause) (n : Nat) (c : TripCause), tripCode c = BitVec.ofNat 8 (n + 1) → n < 10 →
     ((tripBitmap trips).getLsbD n = true ↔ c ∈ trips)) ∧
  (∀ (marks : List Bool) (n : Nat), marks.length ≤ 8 → n < 8 → (flagByte marks).getLsbD n = marks.getD n false)

/-! ### The event queue, part time and the discrete inputs -/

/-- An event put into a queue of fewer than 32 entries is stamped with part time and appended as the newest; at 32 entries
it is discarded and the overflow mark is set; nothing else changes. The end of a millisecond adds 1 to part time, modulo
2^32, and starts the next millisecond (the time within it is the model's own item, notes/assumptions/5.md). -/
def Obligations.EventPutAndTick : Prop :=
  (∀ (s : State) (e : Event),
     (s.evq.entries.length < 32 →
       s.put e = { s with evq := { s.evq with entries := s.evq.entries ++ [⟨e, s.dio.partTime⟩] } }) ∧
     (32 ≤ s.evq.entries.length → s.put e = { s with evq := { s.evq with overflow := true } })) ∧
  (∀ s : State, exec .partTimeTick s = .next { s with dio := { s.dio with partTime := s.dio.partTime + 1, subMs := 0 } })

/-- On a free link EVENT_READ with a count above 8 is refused BAD_VALUE; otherwise the oldest min(n, number of entries)
entries leave the queue and are returned in order with the overflow mark as noted, and the mark is cleared; the remaining
entries keep their order and nothing else changes. An entry is 12 bytes: code, Q1, Q2, the bits for state and value, the
value and the part time, with the codes of every event; a value that does not fit its field is a free value
(notes/assumptions/1.md), and bits 3 to 7 of byte 3 as 0, and Q1 of TRIP_CLEARED as 0, are the model's choice
(notes/assumptions/27.md). -/
def Obligations.EventReadTakesOldest : Prop :=
  (∀ (s : State) (tag n : Byte), s.lnk.free →
     (8 < n.toNat → exec (.eventRead tag n) s = .next (s.turnedAway 0x04 tag .badValue 0)) ∧
     (n.toNat ≤ 8 → ∀ taken kept : List Entry, s.evq.entries = taken ++ kept →
       taken.length = min n.toNat s.evq.entries.length →
       exec (.eventRead tag n) s = .next (State.acked 0x04 tag
         (boolByte s.evq.overflow :: natByte taken.length :: taken.flatMap Entry.bytes)
         { s with evq := { entries := kept, overflow := false } }))) ∧
  (∀ e : Entry,
     let b := e.bytes
     let is (code q1 q2 : Byte) (state : Option Bool) (value : Option Word) : Prop :=
       byteAt b 0 = code ∧ byteAt b 1 = q1 ∧ byteAt b 2 = q2 ∧
       (∀ n : Nat, n < 8 →
         (byteAt b 3).getLsbD n = [state.isSome, decide (state = some true), value.isSome].getD n false) ∧
       wordAt b 4 = value.getD 0
     b.length = 12 ∧ wordAt b 8 = e.time ∧
     (match e.event with
      | .startUp byRestart => is 1 (if byRestart then 2 else 1) 0 none none
      | .input i asserted => is 2 (BitVec.ofNat 8 (inputIndex i)) 0 (some asserted) none
      | .trip c => is 3 (tripCode c) 0 none none
      | .tripCleared => is 4 0 0 none none
      | .chain c => is 5 (chainCode c) 0 none none
      | .test (.holding c) => is 6 2 (holdCode (.holding c)) none none
      | .test (.ended r) => is 6 4 (reasonCode r) none none
      | .test t => is 6 (testCode t) 0 none none
      | .step k => is 7 (BitVec.ofNat 8 k) 0 none none
      | .breakFound k i => is 8 (BitVec.ofNat 8 k) 0 none (some i)
      | .yield .reh c => is 9 1 0 none (some (signedWord c))
      | .yield .rp c => is 9 2 0 none (some (signedWord c))
      | .resultReady r final => is 10 (reasonCode r) 0 (some final) none
      | .profileApplied .now => is 11 1 0 none none
      | .profileApplied .boundary => is 11 2 0 none none
      | .profileApplied .testEnd => is 11 3 0 none none
      | .arm .a t => is 12 0 (armStateCode t) none none
      | .arm .b t => is 12 1 (armStateCode t) none none
      | .source x .set => is 13 (sourceCode x) 1 none none
      | .source x .testEnd => is 13 (sourceCode x) 2 none none
      | .source x .start => is 13 (sourceCode x) 3 none none
      | .source x .fallback => is 13 (sourceCode x) 4 none none
      | .source x .handover => is 13 (sourceCode x) 5 none none
      | .source x .forced => is 13 (sourceCode x) 6 none none
      | .range r => is 14 (rangeCode r) 0 none none
      | .tareDone true t => is 15 1 0 none (some (signedWord t))
      | .tareDone false t => is 15 2 0 none (some (signedWord t))
      | .shuntDone .pass r d => is 16 1 (rangeCode r) none (d.map signedWord)
      | .shuntDone .fail r d => is 16 2 (rangeCode r) none (d.map signedWord)
      | .shuntDone .abandoned r d => is 16 3 (rangeCode r) none (d.map signedWord)
      | .monitorDone pass => is 17 (if pass then 1 else 2) 0 none none
      | .moveDone arrived => is 18 (if arrived then 1 else 2) 0 none none
      | .jogStop .request => is 19 1 0 none none
      | .jogStop .timeout => is 19 2 0 none none
      | .jogStop .limit => is 19 3 0 none none
      | .jogStop .chain => is 19 4 0 none none
      | .softLimit upper => is 20 (if upper then 1 else 2) 0 none none
      | .decim factor => is 21 (BitVec.ofNat 8 factor) 0 none none)) ∧
  ([TripCause.estop, .guard, .limitUp, .limitDown, .overload, .tracking, .encoder, .driveFault, .grip, .halt].map tripCode =
     [1, 2, 3, 4, 5, 6, 7, 8, 9, 10] ∧
   [ChainState.opened, .closed].map chainCode = [0, 1] ∧
   (∀ c : HoldCause, ∀ e : EndReason,
     [TestState.idle, .running, .holding c, .returning, .ended e].map testCode = [0, 1, 2, 3, 4]) ∧
   [HoldCause.request, .soft].map (fun c => holdCode (.holding c)) = [1, 2] ∧
   [EndReason.lastStep, .break, .abortRequest, .trip, .halt].map reasonCode = [1, 2, 3, 4, 5] ∧
   [StrainSource.none, .extAvg, .extA, .extB, .xhead].map sourceCode = [0, 1, 2, 3, 4] ∧
   [ArmState.opened, .seating, .seated, .zeroing, .zeroed, .excluded .slip, .excluded .seatLost, .excluded .overrange,
     .releasing, .fault .seatTimeout, .fault .releaseTimeout].map armStateCode = [0, 1, 2, 3, 4, 5, 6, 7, 8, 9, 10] ∧
   [LoadRange.fine, .wide].map rangeCode = [0, 1] ∧
   [Input.estop, .guard, .limitUp, .limitDown, .gripUpper, .gripLower, .extASeat, .extBSeat, .driveReady, .aux].map
     inputIndex = [0, 1, 2, 3, 4, 5, 6, 7, 8, 9])

/-- A raw change away from the debounced level starts a pending change or keeps one, a return ends it, and with debounce
time 0 the change is taken at once and delivered. A pending change is taken and delivered when its raw level has stood for
the debounce time, and not before. The time within a millisecond comes with the command (the model's choice,
notes/assumptions/5.md). -/
def Obligations.InputDebounce : Prop :=
  (∀ (s : State) (i : Input) (level : Bool) (us : Fin 1000),
     let now : Instant := ⟨s.dio.partTime, max s.dio.subMs us⟩
     let r := s.dio.inputs.get i
     let with_ (q : InputRec) : State := { s with dio := { s.dio with subMs := now.us, inputs := s.dio.inputs.put i q } }
     (level = r.level →
       exec (.rawInputChange i level us) s = .next (with_ { r with raw := level, pendingSince := none })) ∧
     (level ≠ r.level → r.debounce ≠ 0 →
       exec (.rawInputChange i level us) s = .next (with_ { r with
         raw := level, pendingSince := some (match r.pendingSince with | some start => start | none => now) })) ∧
     (level ≠ r.level → r.debounce = 0 →
       exec (.rawInputChange i level us) s = .next (State.deliverInput i
         (with_ { r with raw := level, level := level, pendingSince := none })))) ∧
  (∀ (s : State) (i : Input) (us : Fin 1000),
     let r := s.dio.inputs.get i
     let noted : State := { s with dio := { s.dio with subMs := max s.dio.subMs us } }
     (r.pendingSince = none → exec (.debounceEnd i us) s = .next noted) ∧
     (∀ start : Instant, r.pendingSince = some start →
       let stood : Nat := (s.dio.partTime - start.ms).toNat * 1000 + (max s.dio.subMs us).val
       (stood < r.debounce * 1000 + start.us.val → exec (.debounceEnd i us) s = .next noted) ∧
       (r.debounce * 1000 + start.us.val ≤ stood →
         exec (.debounceEnd i us) s = .next (State.deliverInput i
           { noted with dio := { noted.dio with
               inputs := s.dio.inputs.put i { r with level := !r.level, pendingSince := none } } }))))

/-- The delivery of a change puts INPUT when the route is QUEUE and then acts by the input and its new logical level; AUX
has no consumer. GUARD opening in a CLOSED chain trips in a test state or above the guard speed and otherwise starts guard
mode; in an OPEN chain it does nothing. -/
def Obligations.InputDelivery : Prop :=
  (∀ (s : State) (i : Input),
     let r := s.dio.inputs.get i
     let asserted : Bool := r.level != r.inverted
     let told := if r.queued then s.put (.input i asserted) else s
     s.deliverInput i =
       match i, asserted with
       | .estop, false => told.trip .estop
       | .driveReady, false => told.trip .driveFault
       | .guard, false => told.guardOpened
       | .guard, true => { told with dec := { told.dec with guardMode := false } }
       | .limitUp, true => told.trip .limitUp
       | .limitUp, false => { told with xhs := { told.xhs with escapeUp := false } }
       | .limitDown, true => told.trip .limitDown
       | .limitDown, false => { told with xhs := { told.xhs with escapeDown := false } }
       | .gripUpper, false => if s.tsq.state.sampling then told.trip .grip else told
       | .gripLower, false => if s.tsq.state.sampling then told.trip .grip else told
       | .extASeat, closed => told.seatChanged .a closed
       | .extBSeat, closed => told.seatChanged .b closed
       | _, _ => told) ∧
  (∀ s : State,
     (s.dec.chain = .opened → s.guardOpened = s) ∧
     (s.dec.chain = .closed → (s.testing = true ∨ s.xhs.config.guardSpeed < (s.xhs.velocity.natAbs : Int)) →
       s.guardOpened = s.trip .guard) ∧
     (s.dec.chain = .closed → s.testing = false → (s.xhs.velocity.natAbs : Int) ≤ s.xhs.config.guardSpeed →
       s.guardOpened = { s with dec := { s.dec with guardMode := true } }))

/-- INPUT_CONFIG is refused CHAIN or BAD_VALUE, or the configuration of the named input takes effect with the debounce time
in force; a change of polarity is delivered, and then a pending change that has stood for the new debounce time is taken and
delivered. The order of the two is the model's choice (notes/assumptions/23.md). The time within the millisecond, which the
command does not carry, is a free value, and the count of acceptances is the model's own (notes/assumptions/5.md). -/
def Obligations.InputConfigWrites : Prop :=
  ∀ (s : State) (tag index polarity debounce route : Byte), s.lnk.free →
    (s.dec.chain = .closed →
      exec (.inputConfig tag index polarity debounce route) s = .next (s.turnedAway 0x06 tag .chain 0)) ∧
    (s.dec.chain = .opened →
      (9 < index.toNat ∨ 1 < polarity.toNat ∨ 1 < route.toNat ∨ (index.toNat = 0 ∧ polarity.toNat = 1)) →
      exec (.inputConfig tag index polarity debounce route) s = .next (s.turnedAway 0x06 tag .badValue 0)) ∧
    (∀ i : Input, s.dec.chain = .opened → index.toNat = inputIndex i → polarity.toNat ≤ 1 → route.toNat ≤ 1 →
      (i = .estop → polarity.toNat = 0) →
      let r := s.dio.inputs.get i
      let inForce : Nat :=
        match i with
        | .estop => 1
        | .guard => min debounce.toNat 5
        | .limitUp => min debounce.toNat 5
        | .limitDown => min debounce.toNat 5
        | _ => debounce.toNat
      let q : InputRec :=
        { r with inverted := polarity.toNat == 1, debounce := inForce, queued := route.toNat == 1 }
      let holding (record : InputRec) (t : State) : State :=
        { t with dio := { t.dio with inputs := s.dio.inputs.put i record } }
      let written := holding q s
      let configured := if q.inverted = r.inverted then written else written.deliverInput i
      let taken : State :=
        match r.pendingSince with
        | none => configured
        | some start =>
          let stood : Nat := (s.dio.partTime - start.ms).toNat * 1000 +
            (max s.dio.subMs (Config.timeOfConfig s.dio.configs)).val
          if inForce * 1000 + start.us.val ≤ stood then
            State.deliverInput i (holding { q with level := !r.level, pendingSince := none } configured)
          else configured
      exec (.inputConfig tag index polarity debounce route) s = .next (State.acked 0x06 tag []
        { taken with dio := { taken.dio with configs := s.dio.configs + 1 } }))

/-! ### The drive enable chain -/

/-- A cause already in the trip set does nothing; another joins the set, becomes the first-out of an empty set, puts TRIP,
and opens a CLOSED chain. An opening makes the chain OPEN with CHAIN(OPEN), then disables the servo and ends a jog or a move
with its event, then ends a test. The set is kept in the order latched, and a cleared rate demand and effective rate are 0
(the model's choices, notes/assumptions/16.md, 12.md). -/
def Obligations.TripLatchAndOpening : Prop :=
  (∀ (s : State) (c : TripCause),
     (c ∈ s.dec.trips → s.trip c = s) ∧
     (c ∉ s.dec.trips →
       let latched := State.put (.trip c)
         { s with dec := { s.dec with trips := s.dec.trips ++ [c],
                                      firstOut := if s.dec.trips = [] then some c else s.dec.firstOut } }
       (s.dec.chain = .opened → s.trip c = latched) ∧ (s.dec.chain = .closed → s.trip c = latched.openChain (.trip c)))) ∧
  (∀ (s : State) (cause : OpenCause),
     let told := State.put (.chain .opened) { s with dec := { s.dec with chain := .opened, guardMode := false } }
     let stopped : State :=
       { told with xhs := { s.xhs with
           mode := .disabled, speedWord := 0, velocity := 0, modelVelocity := 0, posAcc := s.position * 12000,
           modelAcc := s.position * 12000, rateAcc := .value 0, effRate := 0, transition := none, trackCount := 0,
           jogRenewal := none, target := none } }
     let ended :=
       if s.xhs.mode = .jog then stopped.put (.jogStop .chain)
       else if s.xhs.mode = .move then stopped.put (.moveDone false) else stopped
     s.openChain cause =
       match s.tsq.state, cause with
       | .running, .trip c => ended.enterEnded (if c = .halt then .halt else .trip)
       | .holding _, .trip c => ended.enterEnded (if c = .halt then .halt else .trip)
       | .returning, .trip _ => ended.enterEnded .break
       | _, _ => ended)

/-- DRIVE_ON makes no change in CLOSED; in OPEN it is refused BUSY, or NOT_READY with every missing permissive (the other
detail bits as 0 are the model's choice, notes/assumptions/27.md), or the chain closes and XHS holds the present position.
DRIVE_OFF is refused STATE in a test state, makes no change in OPEN, and otherwise opens the chain with trip set and
first-out unchanged. -/
def Obligations.DriveOnAndOff : Prop :=
  (∀ (s : State) (tag : Byte), s.lnk.free →
     (s.dec.chain = .closed → exec (.driveOn tag) s = .next (s.acked 0x13 tag [])) ∧
     (s.dec.chain = .opened → (s.ldc.shunt ≠ none ∨ s.xhs.monitor ≠ none) →
       exec (.driveOn tag) s = .next (s.turnedAway 0x13 tag .busy 0)) ∧
     (s.dec.chain = .opened → s.ldc.shunt = none → s.xhs.monitor = none →
       let missing : List Bool :=
         [decide (s.dec.trips ≠ []), !s.asserted .estop, !s.asserted .driveReady,
          decide (s.ldc.table s.ldc.range = []), !s.xhs.monitorProven,
          (s.asserted .limitUp && !s.xhs.escapeUp) || (s.asserted .limitDown && !s.xhs.escapeDown)]
       (true ∈ missing → exec (.driveOn tag) s = .next (s.turnedAway 0x13 tag .notReady (flagHalf missing))) ∧
       (true ∉ missing → exec (.driveOn tag) s = .next (State.acked 0x13 tag []
         { State.put (.chain .closed)
             { s with dec := { s.dec with chain := .closed, guardMode := !s.asserted .guard } } with
           xhs := { s.xhs with
             mode := .still, posAcc := s.position * 12000, modelAcc := s.position * 12000, velocity := 0,
             modelVelocity := 0, trackCount := 0, effRate := 0 } })))) ∧
  (∀ (s : State) (tag : Byte), s.lnk.free →
     (s.testing = true → exec (.driveOff tag) s = .next (s.turnedAway 0x14 tag .state 0)) ∧
     (s.testing = false → s.dec.chain = .opened → exec (.driveOff tag) s = .next (s.acked 0x14 tag [])) ∧
     (s.testing = false → s.dec.chain = .closed →
       exec (.driveOff tag) s = .next (State.acked 0x14 tag [] (s.openChain .driveOff)) ∧
       (s.openChain .driveOff).dec = { s.dec with chain := .opened, guardMode := false }))

/-- TRIP_CLEAR on an empty set changes nothing. Otherwise it removes every cause whose condition is gone and sets the escape
of a limit removed with its switch still asserted; an emptied set clears the first-out and puts TRIP_CLEARED; with causes
left the answer is the refusal TRIPPED with their bitmap, whose bits above the ten causes as 0 are the model's choice
(notes/assumptions/27.md). -/
def Obligations.TripClearJudges : Prop :=
  ∀ (s : State) (tag : Byte), s.lnk.free →
    let present : TripCause → Bool
      | .estop => !s.asserted .estop
      | .driveFault => !s.asserted .driveReady
      | .guard => !s.asserted .guard
      | .overload => s.dec.overloadPresent
      | .halt => s.lnk.inBreak
      | _ => false
    let kept := s.dec.trips.filter present
    let escaped : State :=
      { s with xhs := { s.xhs with
          escapeUp := s.xhs.escapeUp || (decide (TripCause.limitUp ∈ s.dec.trips) && s.asserted .limitUp),
          escapeDown := s.xhs.escapeDown || (decide (TripCause.limitDown ∈ s.dec.trips) && s.asserted .limitDown) } }
    (s.dec.trips = [] → exec (.tripClear tag) s = .next (s.acked 0x15 tag [])) ∧
    (s.dec.trips ≠ [] → kept = [] → exec (.tripClear tag) s = .next (State.acked 0x15 tag []
      (State.put .tripCleared { escaped with dec := { s.dec with trips := [], firstOut := none } }))) ∧
    (kept ≠ [] → exec (.tripClear tag) s = .next (State.turnedAway 0x15 tag .tripped (tripBitmap kept)
      { escaped with dec := { s.dec with trips := kept } }))

/-! ### The load channel -/

/-- Every rounded quotient is a nearest whole number, and of two equally near ones the one farther from zero. The gross load
of a raw code is the interpolation along its segment of a table of rising codes: the segment that holds the code, the first
one below the table, the last one beyond it. -/
def Obligations.LoadInterpolation : Prop :=
  (∀ n d : Int, d ≠ 0 →
     2 * (n - d * roundDiv n d).natAbs ≤ d.natAbs ∧
     (2 * (n - d * roundDiv n d).natAbs = d.natAbs → n.natAbs < (d * roundDiv n d).natAbs)) ∧
  (∀ (table : List CalPoint) (c : Int) (i : Nat) (p q : CalPoint),
     List.Pairwise (fun a b : CalPoint => a.code < b.code) table →
     table[i]? = some p → table[i + 1]? = some q →
     ((p.code ≤ c ∧ c < q.code) ∨ (i = 0 ∧ c < p.code) ∨ (i + 2 = table.length ∧ q.code ≤ c)) →
       grossLoad table c = some (p.load + roundDiv ((c - p.code) * (q.load - p.load)) (q.code - p.code)))

/-- A range switch sets the range, the settle count 2 and the down count 0, puts RANGE, and abandons a tare and a shunt
check with their events; an abandoned check with SHUNT_EN on makes the settle count 8. LOAD_RANGE is refused STATE or
BAD_VALUE, or sets the mode and the down count 0 and switches to a named range that is not the current one. The order of the
events is the model's choice (notes/assumptions/9.md). -/
def Obligations.LoadRangeSwitch : Prop :=
  (∀ (s : State) (r : LoadRange),
     s.switchRange r = State.putAll
       ([.range r] ++ (if s.ldc.tareProgress.isSome then [.tareDone false s.ldc.tare] else []) ++
         (if s.ldc.shunt.isSome then [.shuntDone .abandoned s.ldc.range none] else []))
       { s with ldc := { s.ldc with
           range := r, down := 0, tareProgress := none, shunt := none,
           settle := if s.ldc.shunt.isSome && s.ldc.shuntEn then 8 else 2,
           shuntEn := if s.ldc.shunt.isSome then false else s.ldc.shuntEn } }) ∧
  (∀ (s : State) (tag mode : Byte), s.lnk.free →
     let set (m : RangeMode) : State := { s with ldc := { s.ldc with mode := m, down := 0 } }
     exec (.loadRange tag mode) s = .next (
       if s.testing then s.turnedAway 0x0B tag .state 0
       else if mode.toNat = 0 then State.acked 0x0B tag [] (set .auto)
       else if mode.toNat = 1 then
         State.acked 0x0B tag [] (if s.ldc.range = .fine then set .fine else (set .fine).switchRange .fine)
       else if mode.toNat = 2 then
         State.acked 0x0B tag [] (if s.ldc.range = .wide then set .wide else (set .wide).switchRange .wide)
       else s.turnedAway 0x0B tag .badValue 0))

/-- CAL_WRITE is refused CHAIN, BUSY or BAD_VALUE, in this order, and changes nothing; or the named table holds exactly the
written points and nothing else changes. CAL_READ returns the point count, the points in table order and the shunt
parameters of the named range, or is refused BAD_VALUE, and changes nothing. -/
def Obligations.CalibrationTables : Prop :=
  (∀ (s : State) (tag range : Byte) (points : List (Word × Word)), s.lnk.free → 2 + 8 * points.length ≤ 240 →
     let table : List CalPoint := points.map fun p => ⟨p.1.toInt, p.2.toInt⟩
     let good : Prop :=
       range.toNat ≤ 1 ∧ (points.length = 0 ∨ (2 ≤ points.length ∧ points.length ≤ 11)) ∧
       (∀ p ∈ table, -8388608 ≤ p.code ∧ p.code ≤ 8388607 ∧ -8000000 ≤ p.load ∧ p.load ≤ 8000000) ∧
       List.Pairwise (fun a b : CalPoint => a.code < b.code) table
     (s.dec.chain = .closed → exec (.calWrite tag range points) s = .next (s.turnedAway 0x08 tag .chain 0)) ∧
     (s.dec.chain = .opened → (s.ldc.tareProgress ≠ none ∨ s.ldc.shunt ≠ none) →
       exec (.calWrite tag range points) s = .next (s.turnedAway 0x08 tag .busy 0)) ∧
     (s.dec.chain = .opened → s.ldc.tareProgress = none → s.ldc.shunt = none →
       (¬ good → exec (.calWrite tag range points) s = .next (s.turnedAway 0x08 tag .badValue 0)) ∧
       (good → exec (.calWrite tag range points) s = .next (State.acked 0x08 tag []
         (if range.toNat = 0 then { s with ldc := { s.ldc with fineTable := table } }
          else { s with ldc := { s.ldc with wideTable := table } }))))) ∧
  (∀ (s : State) (tag range : Byte), s.lnk.free →
     let answer (table : List CalPoint) (p : ShuntParams) : List Byte :=
       natByte table.length ::
         (table.flatMap (fun q => signedBytes q.code ++ signedBytes q.load) ++
           (signedBytes p.expected ++ signedBytes p.tolerance))
     (range.toNat = 0 →
       exec (.calRead tag range) s = .next (s.acked 0x09 tag (answer s.ldc.fineTable s.ldc.fineShunt))) ∧
     (range.toNat = 1 →
       exec (.calRead tag range) s = .next (s.acked 0x09 tag (answer s.ldc.wideTable s.ldc.wideShunt))) ∧
     (1 < range.toNat → exec (.calRead tag range) s = .next (s.turnedAway 0x09 tag .badValue 0)))

/-- SHUNT_CONFIG is refused BUSY or BAD_VALUE, or sets the two parameters of the named range. TARE is refused STATE, BUSY or
NO_CAL, SHUNT_CHECK is refused STATE, BUSY or NO_CAL, each in this order; accepted, each starts its progress at zero, and
nothing else changes. -/
def Obligations.ShuntAndTareRequests : Prop :=
  (∀ (s : State) (tag range : Byte) (expected tolerance : Word), s.lnk.free →
     exec (.shuntConfig tag range expected tolerance) s = .next (
       if s.ldc.shunt ≠ none then s.turnedAway 0x0A tag .busy 0
       else if 1 < range.toNat ∨ expected.toInt < -8000000 ∨ 8000000 < expected.toInt ∨ tolerance.toInt < 0 ∨
           8000000 < tolerance.toInt then s.turnedAway 0x0A tag .badValue 0
       else if range.toNat = 0 then
         State.acked 0x0A tag [] { s with ldc := { s.ldc with fineShunt := ⟨expected.toInt, tolerance.toInt⟩ } }
       else State.acked 0x0A tag [] { s with ldc := { s.ldc with wideShunt := ⟨expected.toInt, tolerance.toInt⟩ } })) ∧
  (∀ (s : State) (tag : Byte), s.lnk.free →
     let busy : Prop := s.ldc.tareProgress ≠ none ∨ s.ldc.shunt ≠ none
     let invalid : Prop := s.ldc.table s.ldc.range = []
     (s.testing = true → exec (.tare tag) s = .next (s.turnedAway 0x0C tag .state 0)) ∧
     (s.testing = false → busy → exec (.tare tag) s = .next (s.turnedAway 0x0C tag .busy 0)) ∧
     (s.testing = false → ¬ busy → invalid → exec (.tare tag) s = .next (s.turnedAway 0x0C tag .noCal 0)) ∧
     (s.testing = false → ¬ busy → ¬ invalid →
       exec (.tare tag) s = .next (State.acked 0x0C tag [] { s with ldc := { s.ldc with tareProgress := some ⟨0, 0⟩ } })) ∧
     ((s.dec.chain = .closed ∨ s.testing = true) →
       exec (.shuntCheck tag) s = .next (s.turnedAway 0x0D tag .state 0)) ∧
     (s.dec.chain = .opened → s.testing = false → busy →
       exec (.shuntCheck tag) s = .next (s.turnedAway 0x0D tag .busy 0)) ∧
     (s.dec.chain = .opened → s.testing = false → ¬ busy → invalid →
       exec (.shuntCheck tag) s = .next (s.turnedAway 0x0D tag .noCal 0)) ∧
     (s.dec.chain = .opened → s.testing = false → ¬ busy → ¬ invalid →
       exec (.shuntCheck tag) s =
         .next (State.acked 0x0D tag [] { s with ldc := { s.ldc with shunt := some ⟨.baseline, 0, 0, 0⟩ } })))

/-- Every load conversion answers a next state: LDC's work, then one sample, stored with the change marks cleared and
delivered to RES and TSQ in RUNNING and HOLDING and then to TRB. The sample carries the present index, the position, the
load, HELD and CLAMPED of its class, and the stress, corrected displacement, strain and unclamped strain, source, step and
marks. LDC's work changes LDC and the event queue, and DEC by an OVERLOAD report or a test without one. CLAMPED clear of a
held result in FINE under AUTO and in a shunt check, and of a saturated code under an INVALID range, are the model's choice
(notes/assumptions/25.md, 10.md); the count of composed samples is the model's own (6.md). -/
def Obligations.LoadConversionSample : Prop :=
  ∀ (s : State) (raw : BitVec 24), ∃ (t : State) (l : LastSample),
    exec (.loadConversion raw) s = .next t ∧ t.smp.last = some l ∧
    l.sample.index = s.smp.index ∧ t.smp.index = s.smp.index + 1 ∧ l.sample.position = s.position ∧
    t.dio = s.dio ∧ t.ldc.fineTable = s.ldc.fineTable ∧ t.ldc.wideTable = s.ldc.wideTable ∧ t.ldc.mode = s.ldc.mode ∧
    t.xhs.count = s.xhs.count ∧ t.xhs.zeroCount = s.xhs.zeroCount ∧ t.xhs.config = s.xhs.config ∧
    t.tsq.staged = s.tsq.staged ∧ t.lnk.replySlot = s.lnk.replySlot ∧ t.lnk.receiveSlot = s.lnk.receiveSlot ∧
    t.pending = s.pending ∧
    (let shuntHeld : Prop := ∃ k : ShuntProgress, s.ldc.shunt = some k ∧ k.phase ≠ .baseline
     let saturated : Prop := raw.toInt = -8388608 ∨ raw.toInt = 8388607
     let fineAuto : Prop := s.ldc.mode = .auto ∧ s.ldc.range = .fine
     let table := s.ldc.table s.ldc.range
     let limit : Int :=
       match s.testing, s.tsq.active with
       | true, some p => p.spec.testOverload
       | _, _ => s.xhs.config.frameOverload
     let tested : Prop := (0 < s.ldc.settle ∨ ¬ saturated) ∧ l.sample.held = false
     let within : Prop := tested ∧ ∃ x : Int, l.sample.load = some x ∧ (x.natAbs : Int) ≤ limit
     let report : Prop :=
       (s.ldc.settle = 0 ∧ saturated ∧ ¬ fineAuto) ∨
       (tested ∧ ∃ x : Int, l.sample.load = some x ∧ limit < (x.natAbs : Int))
     let u := (s.convertLoad raw.toInt).1
     let stored : State :=
       { u with smp := { u.smp with
           last := some l, index := u.smp.index + 1, handoverMark := false, forcedMark := false,
           composed := u.smp.composed + 1 } }
     let taken : State :=
       if stored.tsq.state.sampling then
         let r := stored.resTake l.sample
         r.testTake l.sample (decide (stored.res.items.firstYield = none ∧ r.res.items.firstYield ≠ none))
       else stored
     t = State.kick (taken.traceTake l.sample) ∧
     (report →
       u = { State.trip .overload { s with dec := { s.dec with overloadPresent := true } } with ldc := u.ldc, evq := u.evq }) ∧
     (within → u = { s with ldc := u.ldc, evq := u.evq, dec := { s.dec with overloadPresent := false } }) ∧
     (¬ report → ¬ within → u = { s with ldc := u.ldc, evq := u.evq }) ∧
     l.basis.elongA = u.xtc.armA.lastElong ∧ l.basis.elongB = u.xtc.armB.lastElong ∧
     l.basis.corrected = s.position -
       (match l.sample.load with
        | some x => roundDiv (x * s.xhs.config.compliance) 1000000
        | none => 0) ∧
     l.basis.unclamped =
       (rawStrain u.tsq.active u.smp.zeroRef l.basis u.smp.source).map (fun x => x + u.smp.sourceOffset) ∧
     l.sample.strain = l.basis.unclamped.map (clampTo (-2000000) 2000000) ∧
     l.sample.stress =
       (match u.tsq.active, l.sample.load with
        | some p, some x => some (clampTo (-2000000) 2000000 (roundDiv (x * 1000) p.spec.s0))
        | _, _ => none) ∧
     l.sample.source = u.smp.source ∧ l.sample.step = (if u.testing then u.tsq.step else none) ∧
     l.sample.handover = u.smp.handoverMark ∧ l.sample.forced = u.smp.forcedMark ∧
     ((0 < s.ldc.settle ∨ shuntHeld ∨ (saturated ∧ fineAuto)) →
       l.sample.load = s.ldc.lastGood ∧ l.sample.held = true ∧ l.sample.clamped = false) ∧
     (s.ldc.settle = 0 → ¬ shuntHeld → saturated → ¬ fineAuto → table ≠ [] →
       l.sample.load = some (if 0 < raw.toInt then 8000000 else -8000000) ∧ l.sample.held = false ∧
       l.sample.clamped = true) ∧
     (s.ldc.settle = 0 → ¬ shuntHeld → ¬ (saturated ∧ fineAuto) → table = [] →
       l.sample.load = none ∧ l.sample.held = false ∧ l.sample.clamped = false) ∧
     (∀ g : Int, s.ldc.settle = 0 → ¬ shuntHeld → ¬ saturated → grossLoad table raw.toInt = some g →
       l.sample.load = some (clampTo (-8000000) 8000000 (g - s.ldc.tare)) ∧ l.sample.held = false ∧
       (l.sample.clamped = true ↔ (g - s.ldc.tare < -8000000 ∨ 8000000 < g - s.ldc.tare))))

/-- An ordinary conversion with no work in progress sets the last good net load and the down count, switches up at 7,549,746
in AUTO and FINE and down on the 50th low conversion in AUTO and WIDE outside a test. A settling conversion counts the
settle count down and at 0 switches to a kept FINE mode; one without a table makes the last good net load absent; a
saturated code switches up in FINE under AUTO and otherwise reports OVERLOAD and abandons a tare and a shunt check; an
up-switch abandons both. A non-held load above the overload limit of the test state latches OVERLOAD with the chain OPEN;
one within the limit makes overload present no and changes nothing else of DEC. The order of the events, the last good net
load after a saturated code under an INVALID range, and the down count that a settling conversion keeps are the model's
choice (notes/assumptions/9.md, 10.md, 11.md). -/
def Obligations.OrdinaryConversion : Prop :=
  (∀ (s : State) (raw : BitVec 24) (g : Int), s.ldc.settle = 0 → s.ldc.shunt = none → s.ldc.tareProgress = none →
     raw.toInt ≠ -8388608 → raw.toInt ≠ 8388607 → grossLoad (s.ldc.table s.ldc.range) raw.toInt = some g →
     let net := clampTo (-8000000) 8000000 (g - s.ldc.tare)
     let low : Prop := raw.toInt.natAbs ≤ 629145 ∧ s.testing = false ∧ s.ldc.fineTable ≠ []
     let upSwitch : Prop := s.ldc.mode = .auto ∧ s.ldc.range = .fine ∧ 7549746 ≤ raw.toInt.natAbs
     let counting : Prop := s.ldc.mode = .auto ∧ s.ldc.range = .wide ∧ low
     ∃ t : State, exec (.loadConversion raw) s = .next t ∧
       (upSwitch → t.ldc = { s.ldc with lastGood := some net, range := .wide, settle := 2, down := 0 }) ∧
       (¬ upSwitch → ¬ low → t.ldc = { s.ldc with lastGood := some net, down := 0 }) ∧
       (counting → s.ldc.down < 49 → t.ldc = { s.ldc with lastGood := some net, down := s.ldc.down + 1 }) ∧
       (counting → 49 ≤ s.ldc.down →
         t.ldc = { s.ldc with lastGood := some net, range := .fine, settle := 2, down := 0 }) ∧
       (¬ upSwitch → low → ¬ counting → t.ldc = { s.ldc with lastGood := some net })) ∧
  (∀ (s : State) (raw : BitVec 24),
     let l := s.ldc
     let c := raw.toInt
     let shuntHeld : Bool :=
       match l.shunt with
       | some k => decide (k.phase ≠ .baseline)
       | none => false
     let saturated : Prop := c = -8388608 ∨ c = 8388607
     let fineAuto : Prop := l.mode = .auto ∧ l.range = .fine
     let table := l.table l.range
     let u := (s.convertLoad c).1
     let having (x : Ldc) : State := { s with ldc := x }
     -- a settling conversion
     (0 < l.settle → shuntHeld = false →
       u = if l.settle = 1 ∧ l.mode = .fine ∧ l.range = .wide then State.switchRange .fine (having { l with settle := 0 })
           else having { l with settle := l.settle - 1 }) ∧
     -- no table
     (l.settle = 0 → shuntHeld = false → ¬ saturated → table = [] →
       u = if fineAuto ∧ 7549746 ≤ c.natAbs then State.switchRange .wide (having { l with lastGood := none })
           else having { l with lastGood := none, down := 0 }) ∧
     -- an up-switch without a new last good net load
     (l.settle = 0 → fineAuto → (saturated ∨ (shuntHeld = true ∧ 7549746 ≤ c.natAbs)) → u = State.switchRange .wide s) ∧
     -- a saturated code that does not switch
     (l.settle = 0 → saturated → ¬ fineAuto →
       let good : Option Int :=
         if shuntHeld = true ∨ table = [] then l.lastGood else some (if 0 < c then 8000000 else -8000000)
       let reported := State.trip .overload { s with dec := { s.dec with overloadPresent := true } }
       let told := State.putAll
         ((if l.tareProgress.isSome then [.tareDone false l.tare] else []) ++
           (if l.shunt.isSome then [.shuntDone .abandoned l.range none] else [])) reported
       u = { told with ldc := { l with
               lastGood := good, down := 0, tareProgress := none, shunt := none,
               shuntEn := if l.shunt.isSome then false else l.shuntEn,
               settle := if l.shunt.isSome && l.shuntEn then 8 else 0 } }) ∧
     -- an up-switch by an ordinary code, with a tare or a shunt check in progress or none
     (∀ g : Int, l.settle = 0 → shuntHeld = false → fineAuto → ¬ saturated → 7549746 ≤ c.natAbs →
       grossLoad table c = some g →
       let net := clampTo (-8000000) 8000000 (g - l.tare)
       let good := having { l with lastGood := some net }
       let limit : Int :=
         match s.testing, s.tsq.active with
         | true, some p => p.spec.testOverload
         | _, _ => s.xhs.config.frameOverload
       u = State.switchRange .wide
         (if limit < (net.natAbs : Int) then
            State.trip .overload { good with dec := { s.dec with overloadPresent := true } }
          else { good with dec := { s.dec with overloadPresent := false } }))) ∧
  (∀ (s : State) (raw : BitVec 24) (g : Int), ChainLaw s → s.ldc.settle = 0 → s.ldc.shunt = none →
     raw.toInt ≠ -8388608 → raw.toInt ≠ 8388607 → grossLoad (s.ldc.table s.ldc.range) raw.toInt = some g →
     let net := clampTo (-8000000) 8000000 (g - s.ldc.tare)
     let limit : Int :=
       match s.testing, s.tsq.active with
       | true, some p => p.spec.testOverload
       | _, _ => s.xhs.config.frameOverload
     ∃ t : State, exec (.loadConversion raw) s = .next t ∧
       (limit < (net.natAbs : Int) →
         TripCause.overload ∈ t.dec.trips ∧ t.dec.overloadPresent = true ∧ t.dec.chain = .opened) ∧
       ((net.natAbs : Int) ≤ limit → t.dec = { s.dec with overloadPresent := false }))

/-- An ordinary conversion of any mode and range that makes no up-switch joins the sum of a tare, and the 16th sets the
tare, rounded and clamped, and puts TARE_DONE(OK); that TRIP(OVERLOAD) and what it causes come before TARE_DONE is the
model's choice (notes/assumptions/9.md). By conversions that are not saturated and make no up-switch, a shunt check in a
settled channel takes 16 baseline, 8 settling, 16 measured and 8 releasing conversions, switching SHUNT_EN on after the
baseline and off after the measurement, and ends with SHUNT_DONE by the deviation from the expected load. -/
def Obligations.TareAndShuntConversions : Prop :=
  (∀ (s : State) (raw : BitVec 24) (g : Int) (k : TareProgress), s.ldc.settle = 0 → s.ldc.shunt = none →
     s.ldc.tareProgress = some k → raw.toInt ≠ -8388608 → raw.toInt ≠ 8388607 →
     ¬ (s.ldc.mode = .auto ∧ s.ldc.range = .fine ∧ 7549746 ≤ raw.toInt.natAbs) →
     grossLoad (s.ldc.table s.ldc.range) raw.toInt = some g →
     let net := clampTo (-8000000) 8000000 (g - s.ldc.tare)
     let limit : Int :=
       match s.testing, s.tsq.active with
       | true, some p => p.spec.testOverload
       | _, _ => s.xhs.config.frameOverload
     let tested : State :=
       if limit < (net.natAbs : Int) then State.trip .overload { s with dec := { s.dec with overloadPresent := true } }
       else { s with dec := { s.dec with overloadPresent := false } }
     let tare := clampTo (-8000000) 8000000 (roundDiv (k.sum + g) 16)
     let u := (s.convertLoad raw.toInt).1
     (k.taken ≠ 15 → u = { tested with ldc := { s.ldc with
       lastGood := some net, down := 0, tareProgress := some ⟨k.taken + 1, k.sum + g⟩ } }) ∧
     (k.taken = 15 → u = State.put (.tareDone true tare) { tested with ldc := { s.ldc with
       lastGood := some net, down := 0, tare := tare, tareProgress := none } }) ∧
     ∃ t : State, exec (.loadConversion raw) s = .next t ∧ t.ldc = u.ldc) ∧
  (∀ (s : State) (raw : BitVec 24) (g : Int) (k : ShuntProgress), s.ldc.settle = 0 → s.ldc.tareProgress = none →
     s.ldc.shunt = some k → raw.toInt ≠ -8388608 → raw.toInt ≠ 8388607 →
     ¬ (s.ldc.mode = .auto ∧ s.ldc.range = .fine ∧ 7549746 ≤ raw.toInt.natAbs) →
     grossLoad (s.ldc.table s.ldc.range) raw.toInt = some g →
     ∃ t : State, exec (.loadConversion raw) s = .next t ∧
       (t.ldc.shunt, t.ldc.shuntEn) =
         (match k.phase with
          | .baseline =>
            if k.taken = 15 then (some ⟨.shuntSettle, 0, k.baseline + g, k.sum⟩, true)
            else (some { k with taken := k.taken + 1, baseline := k.baseline + g }, s.ldc.shuntEn)
          | .shuntSettle =>
            if k.taken = 7 then (some { k with phase := .shuntMeasure, taken := 0 }, s.ldc.shuntEn)
            else (some { k with taken := k.taken + 1 }, s.ldc.shuntEn)
          | .shuntMeasure =>
            if k.taken = 15 then (some { k with phase := .releaseSettle, taken := 0, sum := k.sum + g }, false)
            else (some { k with taken := k.taken + 1, sum := k.sum + g }, s.ldc.shuntEn)
          | .releaseSettle =>
            if k.taken = 7 then (none, s.ldc.shuntEn) else (some { k with taken := k.taken + 1 }, s.ldc.shuntEn)) ∧
       (k.phase = .releaseSettle → k.taken = 7 →
         let p := s.ldc.shuntParams s.ldc.range
         let deviation := roundDiv (k.sum - k.baseline) 16 - p.expected
         s.evq.entries.length < 32 →
           (⟨.shuntDone (if (deviation.natAbs : Int) ≤ p.tolerance then .pass else .fail) s.ldc.range (some deviation),
             s.dio.partTime⟩ : Entry) ∈ t.evq.entries))

/-! ### The extensometer arms -/

/-- EXT_CONFIG is refused STATE unless both arms are OPEN, then refused BAD_VALUE when a field lies outside its range, and
otherwise every field takes the written value; a refused request changes nothing, and an accepted one nothing else. -/
def Obligations.ExtConfigWrites : Prop :=
  ∀ (s : State) (tag : Byte) (f : ExtConfigFields), s.lnk.free →
    let armGood (a : ArmConfigFields) : Prop :=
      a.enabled.toNat ≤ 1 ∧ 1 ≤ a.scale.toInt ∧ a.scale.toInt ≤ 16777216 ∧ 1 ≤ a.span.toInt ∧ a.span.toInt ≤ 1000000 ∧
      100 ≤ a.slip.toInt ∧ a.slip.toInt ≤ 100000
    let good : Prop :=
      armGood f.armA ∧ armGood f.armB ∧ 50 ≤ f.pullIn.toNat ∧ f.pullIn.toNat ≤ 500 ∧ 50 ≤ f.holdOn.toNat ∧
      f.holdOn.toNat ≤ 950 ∧ 50 ≤ f.holdOff.toNat ∧ f.holdOff.toNat ≤ 950 ∧ 100 ≤ f.seatTimeout.toNat ∧
      f.seatTimeout.toNat ≤ 2000 ∧ 100 ≤ f.releaseTimeout.toNat ∧ f.releaseTimeout.toNat ≤ 2000
    let arm (r : ArmRec) (a : ArmConfigFields) : ArmRec :=
      { r with enabled := a.enabled.toNat == 1, scale := some a.scale.toInt, span := some a.span.toInt,
               slipThreshold := some a.slip.toInt }
    ((s.xtc.armA.state ≠ .opened ∨ s.xtc.armB.state ≠ .opened) →
      exec (.extConfig tag f) s = .next (s.turnedAway 0x0E tag .state 0)) ∧
    (s.xtc.armA.state = .opened → s.xtc.armB.state = .opened → ¬ good →
      exec (.extConfig tag f) s = .next (s.turnedAway 0x0E tag .badValue 0)) ∧
    (s.xtc.armA.state = .opened → s.xtc.armB.state = .opened → good →
      exec (.extConfig tag f) s = .next (State.acked 0x0E tag []
        { s with xtc :=
          { armA := arm s.xtc.armA f.armA, armB := arm s.xtc.armB f.armB, pullInTime := f.pullIn.toNat,
            holdOnTime := f.holdOn.toNat, holdOffTime := f.holdOff.toNat, seatTimeout := f.seatTimeout.toNat,
            releaseTimeout := f.releaseTimeout.toNat } }))

/-- EXT_SEAT of one enabled arm in OPEN or FAULT outside a test: its solenoid pulls in, a holding solenoid of the other arm
is re-struck with the same pull-in end, the arm becomes SEATING with its timeout, or SEATED at once with its seat closed,
ARM is put, and the source follows the averaging set. -/
def Obligations.ExtSeatOneArm : Prop :=
  ∀ (s : State) (tag select : Byte) (which : Arm), s.lnk.free → s.testing = false →
    select.toNat = (match which with | .a => 1 | .b => 2) → (s.arm which).enabled = true →
    ((s.arm which).state = .opened ∨ ∃ c : FaultCause, (s.arm which).state = .fault c) →
    let ends : Word := s.dio.partTime + BitVec.ofNat 32 s.xtc.pullInTime
    let seated : ArmRec :=
      { s.arm which with
          solenoid := .pullIn ends,
          state := if s.seatClosed which then .seated else .seating,
          timer := if s.seatClosed which then none
            else some (s.dio.partTime + BitVec.ofNat 32 s.xtc.seatTimeout) }
    let other : ArmRec :=
      match (s.arm (otherArm which)).solenoid with
      | .hold _ => { s.arm (otherArm which) with solenoid := .pullIn ends }
      | _ => s.arm (otherArm which)
    let moved := State.put (.arm which seated.state) ((s.setArm (otherArm which) other).setArm which seated)
    let t := moved.followSet .set
    exec (.extSeat tag select) s = .next (t.acked 0x0F tag [armStateCode t.xtc.armA.state, armStateCode t.xtc.armB.state])

/-- EXT_SEAT is refused STATE in a test state and BAD_VALUE for the arm code or an arm not enabled; named arms that are not
in OPEN or FAULT are left as they are, and where no named arm is in OPEN or FAULT nothing changes but the reply, the source
being that of the averaging set as it is outside a test. Both arms, both OPEN, pull in with one end, arm A's event before
arm B's. Of every accepted arm code each named arm in OPEN or FAULT is seated, SEATING or at once SEATED by its seat, and a
solenoid at HOLD of an arm that is not moved is re-struck. That SMP is told once is the model's choice
(notes/assumptions/15.md). -/
def Obligations.ExtSeatRefusalsAndBoth : Prop :=
  (∀ (s : State) (tag select : Byte), s.lnk.free →
     let namesA : Prop := select.toNat = 1 ∨ select.toNat = 3
     let namesB : Prop := select.toNat = 2 ∨ select.toNat = 3
     (s.testing = true → exec (.extSeat tag select) s = .next (s.turnedAway 0x0F tag .state 0)) ∧
     (s.testing = false →
       (¬ (1 ≤ select.toNat ∧ select.toNat ≤ 3) ∨ (namesA ∧ s.xtc.armA.enabled = false) ∨
         (namesB ∧ s.xtc.armB.enabled = false)) →
       exec (.extSeat tag select) s = .next (s.turnedAway 0x0F tag .badValue 0)) ∧
     (s.testing = false → 1 ≤ select.toNat → select.toNat ≤ 3 →
       (namesA → s.xtc.armA.enabled = true ∧ s.xtc.armA.state.seatable = false) →
       (namesB → s.xtc.armB.enabled = true ∧ s.xtc.armB.state.seatable = false) →
       exec (.extSeat tag select) s = .next (State.acked 0x0F tag
         [armStateCode s.xtc.armA.state, armStateCode s.xtc.armB.state] (s.followSet .set)) ∧
       (SourceLaw s → exec (.extSeat tag select) s = .next (State.acked 0x0F tag
         [armStateCode s.xtc.armA.state, armStateCode s.xtc.armB.state] s)))) ∧
  (∀ (s : State) (tag : Byte), s.lnk.free → s.testing = false → s.xtc.armA.enabled = true → s.xtc.armB.enabled = true →
     s.xtc.armA.state = .opened → s.xtc.armB.state = .opened → s.xtc.armA.solenoid = .off → s.xtc.armB.solenoid = .off →
     s.seatClosed .a = false → s.seatClosed .b = false → s.smp.source = .none → s.smp.sourceOffset = 0 →
     let seated (r : ArmRec) : ArmRec :=
       { r with state := .seating, solenoid := .pullIn (s.dio.partTime + BitVec.ofNat 32 s.xtc.pullInTime),
                timer := some (s.dio.partTime + BitVec.ofNat 32 s.xtc.seatTimeout) }
     exec (.extSeat tag 3) s = .next (State.acked 0x0F tag [1, 1]
       (State.putAll [.arm .a .seating, .arm .b .seating]
         { s with xtc := { s.xtc with armA := seated s.xtc.armA, armB := seated s.xtc.armB } }))) ∧
  (∀ (s : State) (tag select : Byte), s.lnk.free → s.testing = false → 1 ≤ select.toNat → select.toNat ≤ 3 →
     let named : Arm → Bool
       | .a => decide (select.toNat ≠ 2)
       | .b => decide (select.toNat ≠ 1)
     let moves (which : Arm) : Bool :=
       match (s.arm which).state with
       | .opened => named which
       | .fault _ => named which
       | _ => false
     let ends : Word := s.dio.partTime + BitVec.ofNat 32 s.xtc.pullInTime
     let after (which : Arm) : ArmRec :=
       let r := s.arm which
       if moves which then
         { r with solenoid := .pullIn ends, state := if s.seatClosed which then .seated else .seating,
                  timer := if s.seatClosed which then none
                    else some (s.dio.partTime + BitVec.ofNat 32 s.xtc.seatTimeout) }
       else
         match r.solenoid, moves (otherArm which) with
         | .hold _, true => { r with solenoid := .pullIn ends }
         | _, _ => r
     let events (which : Arm) : List Event := if moves which then [.arm which (after which).state] else []
     let t := State.followSet .set (State.putAll (events .a ++ events .b)
       { s with xtc := { s.xtc with armA := after .a, armB := after .b } })
     (named .a = true → s.xtc.armA.enabled = true) → (named .b = true → s.xtc.armB.enabled = true) →
       exec (.extSeat tag select) s = .next (t.acked 0x0F tag [armStateCode t.xtc.armA.state, armStateCode t.xtc.armB.state]))

/-- EXT_ZERO is refused STATE in a test state whatever its arm code, BAD_VALUE for the arm code, and NOT_SEATED unless a
named arm is SEATED, ZEROING or ZEROED; otherwise each such named arm enters ZEROING with its zero, elongation and flags
discarded and a fresh capture, arm A before arm B, and the source follows the averaging set. An arm already ZEROING puts no
ARM event, and SMP is told once (the model's choices, notes/assumptions/14.md, 15.md). -/
def Obligations.ExtZeroOneArm : Prop :=
  (∀ (s : State) (tag select : Byte) (which : Arm), s.lnk.free →
     select.toNat = (match which with | .a => 1 | .b => 2) →
     let r := s.arm which
     let fresh : ArmRec :=
       { r with state := .zeroing, zeroCode := none, lastElong := none, slip := false, overrange := false,
                capture := some ⟨0, 0⟩ }
     let reply (t : State) : State :=
       t.acked 0x10 tag [armStateCode t.xtc.armA.state, armStateCode t.xtc.armB.state]
     (s.testing = true → exec (.extZero tag select) s = .next (s.turnedAway 0x10 tag .state 0)) ∧
     (s.testing = false → r.state ≠ .seated → r.state ≠ .zeroing → r.state ≠ .zeroed →
       exec (.extZero tag select) s = .next (s.turnedAway 0x10 tag .notSeated 0)) ∧
     (s.testing = false → (r.state = .seated ∨ r.state = .zeroed) →
       exec (.extZero tag select) s =
         .next (reply (State.followSet .set (State.put (.arm which .zeroing) (s.setArm which fresh))))) ∧
     (s.testing = false → r.state = .zeroing →
       exec (.extZero tag select) s = .next (reply (State.followSet .set (s.setArm which fresh))))) ∧
  (∀ (s : State) (tag select : Byte), s.lnk.free →
     let named : Arm → Bool
       | .a => decide (select.toNat = 1 ∨ select.toNat = 3)
       | .b => decide (select.toNat = 2 ∨ select.toNat = 3)
     let zeroes (which : Arm) : Bool := named which && decide ((s.arm which).state ∈ [.seated, .zeroing, .zeroed])
     let zero (which : Arm) (t : State) : State :=
       let fresh : ArmRec :=
         { s.arm which with state := .zeroing, zeroCode := none, lastElong := none, slip := false, overrange := false,
                            capture := some ⟨0, 0⟩ }
       if zeroes which then
         (if (s.arm which).state = .zeroing then t.setArm which fresh else State.put (.arm which .zeroing) (t.setArm which fresh))
       else t
     let t := State.followSet .set (zero .b (zero .a s))
     (s.testing = true → exec (.extZero tag select) s = .next (s.turnedAway 0x10 tag .state 0)) ∧
     (s.testing = false → ¬ (1 ≤ select.toNat ∧ select.toNat ≤ 3) →
       exec (.extZero tag select) s = .next (s.turnedAway 0x10 tag .badValue 0)) ∧
     (s.testing = false → 1 ≤ select.toNat → select.toNat ≤ 3 → zeroes .a = false → zeroes .b = false →
       exec (.extZero tag select) s = .next (s.turnedAway 0x10 tag .notSeated 0)) ∧
     (s.testing = false → (zeroes .a = true ∨ zeroes .b = true) → exec (.extZero tag select) s =
       .next (t.acked 0x10 tag [armStateCode t.xtc.armA.state, armStateCode t.xtc.armB.state])))

/-- An arm entering RELEASING has its solenoid off, its zero and flags discarded, and is RELEASING with its timer while the
seat reads closed and OPEN at once otherwise. EXT_RELEASE is refused BAD_VALUE for the arm code; outside a test a named arm
that is not OPEN or RELEASING enters RELEASING, and the source follows the averaging set. A release start, in every test
state, moves each arm it applies to that is SEATING, SEATED, ZEROING, ZEROED or EXCLUDED, and for a request one in FAULT,
arm A before arm B, and then tells SMP; EXT_RELEASE of every accepted arm code is a release start for a request. -/
def Obligations.ExtReleaseOneArm : Prop :=
  (∀ (s : State) (which : Arm),
     let state : ArmState := if s.seatClosed which then .releasing else .opened
     s.enterReleasing which = State.put (.arm which state) (s.setArm which
       { s.arm which with
           state := state, solenoid := .off, capture := none, zeroCode := none, lastElong := none, slip := false,
           overrange := false,
           timer := if s.seatClosed which then some (s.dio.partTime + BitVec.ofNat 32 s.xtc.releaseTimeout) else none })) ∧
  (∀ (s : State) (tag select : Byte) (which : Arm), s.lnk.free →
     (¬ (1 ≤ select.toNat ∧ select.toNat ≤ 3) →
       exec (.extRelease tag select) s = .next (s.turnedAway 0x11 tag .badValue 0)) ∧
     (s.testing = false → select.toNat = (match which with | .a => 1 | .b => 2) →
       let moved :=
         if (s.arm which).state = .opened ∨ (s.arm which).state = .releasing then s else s.enterReleasing which
       let t := moved.followSet .set
       exec (.extRelease tag select) s =
         .next (t.acked 0x11 tag [armStateCode t.xtc.armA.state, armStateCode t.xtc.armB.state]))) ∧
  (∀ (s : State) (onA onB request : Bool),
     let on : Arm → Bool
       | .a => onA
       | .b => onB
     let moves (which : Arm) : Bool :=
       match (s.arm which).state with
       | .opened => false
       | .releasing => false
       | .fault _ => on which && request
       | _ => on which
     let release (which : Arm) (t : State) : State := if moves which then t.enterReleasing which else t
     let moved := release .b (release .a s)
     let inSet (which : Arm) : Bool := decide ((s.arm which).state = .zeroed)
     (s.testing = false → s.releaseStart onA onB request = moved.followSet .set) ∧
     (s.testing = true → s.releaseStart onA onB request = moved.sourceAtRelease (inSet .a, inSet .b)) ∧
     (∀ tag select : Byte, s.lnk.free → 1 ≤ select.toNat → select.toNat ≤ 3 →
       let t := s.releaseStart (decide (select.toNat ≠ 2)) (decide (select.toNat ≠ 1)) true
       exec (.extRelease tag select) s =
         .next (t.acked 0x11 tag [armStateCode t.xtc.armA.state, armStateCode t.xtc.armB.state])))

/-- In and outside a test a debounced change of a seat input acts by the state of its arm: SEATING becomes SEATED, SEATED,
ZEROING and ZEROED become EXCLUDED(SEAT_LOST), RELEASING becomes OPEN, and nothing changes otherwise; outside a test the
source then follows the averaging set. A pull-in end and the phases of a hold cycle move the solenoid alone; a due seat
timeout outside a test, and a due release timeout in and outside a test, move the arm to FAULT with its event. An expiry
that is not due changes nothing (the model's choice, notes/assumptions/7.md). -/
def Obligations.SeatInputsAndArmTimers : Prop :=
  (∀ (s : State) (which : Arm),
     let r := s.arm which
     let put (q : ArmRec) : State := State.put (.arm which q.state) (s.setArm which q)
     let go (q : ArmRec) : State := if s.testing then put q else State.followSet .set (put q)
     let lost : ArmRec := { r with state := .excluded .seatLost, capture := none }
     (r.state = .seating → s.seatChanged which true = go { r with state := .seated, timer := none }) ∧
     (s.testing = false → (r.state = .seated ∨ r.state = .zeroing ∨ r.state = .zeroed) →
       s.seatChanged which false = go lost) ∧
     (s.testing = true → (r.state = .seated ∨ r.state = .zeroing) → s.seatChanged which false = put lost) ∧
     (r.state = .zeroed → s.seatChanged which false = s.excludeArm which .seatLost) ∧
     (r.state = .releasing → s.seatChanged which false = go { r with state := .opened, timer := none }) ∧
     (r.state ≠ .seating → s.seatChanged which true = s) ∧
     (r.state.zeroable = false → r.state ≠ .releasing → s.seatChanged which false = s)) ∧
  (∀ (s : State) (which : Arm),
     let r := s.arm which
     (r.solenoid = .pullIn s.dio.partTime →
       exec (.pullInEnd which) s = .next (s.setArm which
         { r with solenoid := .hold { high := true, onTime := s.xtc.holdOnTime, offTime := s.xtc.holdOffTime } })) ∧
     (r.solenoid ≠ .pullIn s.dio.partTime → exec (.pullInEnd which) s = .next s) ∧
     (∀ c : HoldCycle, r.solenoid = .hold c →
       exec (.holdPhaseEnd which) s = .next (s.setArm which { r with solenoid := .hold { c with high := !c.high } })) ∧
     (s.testing = false → r.state = .seating → r.timer = some s.dio.partTime →
       exec (.seatTimeout which) s = .next (State.followSet .set (State.put (.arm which (.fault .seatTimeout))
         (s.setArm which { r with state := .fault .seatTimeout, solenoid := .off, timer := none })))) ∧
     (s.testing = false → r.state = .releasing → r.timer = some s.dio.partTime →
       exec (.releaseTimeout which) s = .next (State.followSet .set (State.put (.arm which (.fault .releaseTimeout))
         (s.setArm which { r with state := .fault .releaseTimeout, timer := none })))) ∧
     (s.testing = true → r.state = .releasing → r.timer = some s.dio.partTime →
       exec (.releaseTimeout which) s = .next (State.put (.arm which (.fault .releaseTimeout))
         (s.setArm which { r with state := .fault .releaseTimeout, timer := none }))) ∧
     ((r.state ≠ .seating ∨ r.timer ≠ some s.dio.partTime) → exec (.seatTimeout which) s = .next s) ∧
     ((r.state ≠ .releasing ∨ r.timer ≠ some s.dio.partTime) → exec (.releaseTimeout which) s = .next s))

/-- A conversion of an arm neither ZEROING nor ZEROED only stores the raw code. Of a ZEROING arm it joins the capture, whose
8th code sets the zero code; a saturated one ends the capture. Of a ZEROED arm it forms the elongation: outside RUNNING and
HOLDING it is only flagged; in them the arm is excluded by SLIP, then by OVERRANGE, or takes the elongation. -/
def Obligations.ExtConversion : Prop :=
  (∀ (s : State) (which : Arm) (raw : BitVec 24),
     let stored : ArmRec := { s.arm which with lastRaw := some raw.toInt }
     let saturated : Prop := raw.toInt = -8388608 ∨ raw.toInt = 8388607
     let go (q : ArmRec) : State :=
       State.sourceAtArmChange (State.put (.arm which q.state) (s.setArm which q))
     ((s.arm which).state ≠ .zeroing → (s.arm which).state ≠ .zeroed →
       exec (.extConversion which raw) s = .next (s.setArm which stored)) ∧
     (∀ k : ZeroCapture, (s.arm which).state = .zeroing → (s.arm which).capture = some k →
       (saturated →
         exec (.extConversion which raw) s = .next (go { stored with state := .seated, capture := none })) ∧
       (¬ saturated → k.taken ≠ 7 → exec (.extConversion which raw) s =
         .next (s.setArm which { stored with capture := some ⟨k.taken + 1, k.sum + raw.toInt⟩ })) ∧
       (¬ saturated → k.taken = 7 → exec (.extConversion which raw) s =
         .next (go { stored with state := .zeroed, capture := none,
                                 zeroCode := some (roundDiv (k.sum + raw.toInt) 8) })))) ∧
  (∀ (s : State) (which : Arm) (raw : BitVec 24) (zero scale span slipMax : Int),
     let r := s.arm which
     let stored : ArmRec := { r with lastRaw := some raw.toInt }
     let saturated : Prop := raw.toInt = -8388608 ∨ raw.toInt = 8388607
     let x := roundDiv ((raw.toInt - zero) * scale) 1048576
     let slips : Prop := ∃ l : Int, r.lastElong = some l ∧ slipMax < ((x - l).natAbs : Int)
     let beyond : Prop := span < (x.natAbs : Int)
     r.state = .zeroed → r.zeroCode = some zero → r.scale = some scale → r.span = some span →
     r.slipThreshold = some slipMax →
     (s.tsq.state.sampling = false → saturated →
       exec (.extConversion which raw) s = .next (s.setArm which { stored with overrange := true })) ∧
     (s.tsq.state.sampling = false → ¬ saturated → ∃ q : ArmRec,
       exec (.extConversion which raw) s = .next (s.setArm which q) ∧
       q = { stored with lastElong := some x, overrange := q.overrange, slip := q.slip } ∧
       (q.overrange = true ↔ beyond) ∧ (q.slip = true ↔ (r.slip = true ∨ slips))) ∧
     (s.tsq.state.sampling = true → ¬ saturated → ¬ slips → ¬ beyond →
       exec (.extConversion which raw) s = .next (s.setArm which { stored with lastElong := some x })) ∧
     (s.tsq.state.sampling = true → ¬ saturated → slips →
       exec (.extConversion which raw) s = .next (State.excludeArm which .slip (s.setArm which stored))) ∧
     (s.tsq.state.sampling = true → (saturated ∨ (¬ slips ∧ beyond)) →
       exec (.extConversion which raw) s = .next (State.excludeArm which .overrange (s.setArm which stored))))

/-- In a test state an excluded arm becomes EXCLUDED with its event, and nothing else changes when it was not ZEROED or the
source does not depend on it; under EXT_AVG with the other arm ZEROED the source falls back to it, joined; with no arm left
under an extensometer source a forced handover to XHEAD is made with its marks and a protective release of both arms. At a
release start in a test state an extensometer source that loses its last arm is handed over to XHEAD with SOURCE(XHEAD,
HANDOVER) and the HANDOVER mark, joined; EXT_AVG that keeps one arm falls back to it; nothing changes otherwise. The new
offset is the present one when no sample has been composed since TEST_START and when the last sample has no strain. After
any other change of source it is the present offset plus the old raw strain less the new one, so that the new raw strain
plus the new offset is, on the last sample, its unclamped strain. -/
def Obligations.ExclusionAndJoin : Prop :=
  (∀ (s : State) (which : Arm) (cause : ExclusionCause), s.testing = true →
     let out := State.put (.arm which (.excluded cause))
       (s.setArm which { s.arm which with state := .excluded cause, capture := none })
     let single : StrainSource := match which with | .a => .extB | .b => .extA
     ((s.arm which).state ≠ .zeroed → s.excludeArm which cause = out) ∧
     ((s.arm which).state = .zeroed →
       ((s.smp.source = .xhead ∨ s.smp.source = .none) → s.excludeArm which cause = out) ∧
       (s.smp.source = single → (s.arm (otherArm which)).state = .zeroed → s.excludeArm which cause = out) ∧
       (s.smp.source = .extAvg → (s.arm (otherArm which)).state = .zeroed →
         s.excludeArm which cause = State.put (.source single .fallback)
           { out with smp := { out.smp with source := single, sourceOffset := out.joinedOffset single } }) ∧
       ((s.smp.source = .extAvg ∨ s.smp.source = .extA ∨ s.smp.source = .extB) →
         (s.arm (otherArm which)).state ≠ .zeroed →
         s.excludeArm which cause = State.releaseArms true true false
           (let t := State.put (.source .xhead .forced)
               { out with smp := { out.smp with source := .xhead, sourceOffset := out.joinedOffset .xhead } }
            { t with smp := { t.smp with handoverMark := true, forcedMark := true } })))) ∧
  (∀ (s : State) (beforeA beforeB : Bool), s.testing = true →
     let inSet (which : Arm) : Bool := decide ((s.arm which).state = .zeroed)
     let t := s.sourceAtRelease (beforeA, beforeB)
     let told (source : StrainSource) (cause : SourceCause) : State :=
       State.put (.source source cause)
         { s with smp := { s.smp with source := source, sourceOffset := s.joinedOffset source } }
     let ext : Prop := s.smp.source = .extAvg ∨ s.smp.source = .extA ∨ s.smp.source = .extB
     let changed : Prop := inSet .a ≠ beforeA ∨ inSet .b ≠ beforeB
     (s.smp.source = .xhead → t = s) ∧
     (¬ changed → t = s) ∧
     (ext → changed → inSet .a = false → inSet .b = false →
       t = { told .xhead .handover with smp := { (told .xhead .handover).smp with handoverMark := true } }) ∧
     (s.smp.source = .extAvg → changed → inSet .a = true → inSet .b = false → t = told .extA .fallback) ∧
     (s.smp.source = .extAvg → changed → inSet .a = false → inSet .b = true → t = told .extB .fallback)) ∧
  (∀ (s : State) (new : StrainSource),
     (s.smp.composed ≤ s.smp.composedAtStart → s.joinedOffset new = s.smp.sourceOffset) ∧
     (s.smp.last = none → s.joinedOffset new = s.smp.sourceOffset) ∧
     (∀ l : LastSample, s.smp.last = some l → l.sample.strain = none → s.joinedOffset new = s.smp.sourceOffset) ∧
     (∀ (l : LastSample) (p : Profile) (old rawNew : Int),
       s.smp.composedAtStart < s.smp.composed → s.smp.last = some l → l.sample.strain ≠ none → s.tsq.active = some p →
       rawStrain (some p) s.smp.zeroRef l.basis s.smp.source = some old →
       rawStrain (some p) s.smp.zeroRef l.basis new = some rawNew →
         s.joinedOffset new = s.smp.sourceOffset + old - rawNew ∧
         rawNew + s.joinedOffset new = old + s.smp.sourceOffset))

/-- Outside a test the strain source follows the averaging set with offset 0, and SOURCE(SET) is put only when it changes.
The raw strain of each source is formed from the elongations or the corrected displacement with L0 or Lc of the active
profile. There is none when an elongation that the source needs is absent, for NONE, and without an active profile; EXT_A
and EXT_B need their own elongation alone and XHEAD none. -/
def Obligations.SourceAndRawStrain : Prop :=
  (∀ s : State,
     let source : StrainSource :=
       if s.xtc.armA.state = .zeroed then (if s.xtc.armB.state = .zeroed then .extAvg else .extA)
       else if s.xtc.armB.state = .zeroed then .extB else .none
     let set : State := { s with smp := { s.smp with source := source, sourceOffset := 0 } }
     s.followSet .set = if s.smp.source = source then set else set.put (.source source .set)) ∧
  (∀ (p : Profile) (zeroRef : Int) (b : Basis),
     (∀ x y : Int, b.elongA = some x → b.elongB = some y →
       rawStrain (some p) zeroRef b .extAvg = some (roundDiv (roundDiv (x + y) 2 * 10000) p.spec.l0)) ∧
     ((b.elongA = none ∨ b.elongB = none) → rawStrain (some p) zeroRef b .extAvg = none) ∧
     (∀ x : Int, b.elongA = some x → rawStrain (some p) zeroRef b .extA = some (roundDiv (x * 10000) p.spec.l0)) ∧
     (b.elongA = none → rawStrain (some p) zeroRef b .extA = none) ∧
     (∀ y : Int, b.elongB = some y → rawStrain (some p) zeroRef b .extB = some (roundDiv (y * 10000) p.spec.l0)) ∧
     (b.elongB = none → rawStrain (some p) zeroRef b .extB = none) ∧
     rawStrain (some p) zeroRef b .xhead = some (roundDiv ((b.corrected - zeroRef) * 100000) p.spec.lc) ∧
     rawStrain (some p) zeroRef b .none = none ∧
     (∀ source : StrainSource, rawStrain none zeroRef b source = none))

/-! ### The crosshead servo -/

/-- The encoder count moves by 1 at a legal transition, modulo 2^32, in the direction that the phase of the two channels
gives; an illegal one keeps the count and reports ENCODER; with no channel changed nothing changes. The position is count
minus zero count as a signed value times 5, as a signed 32-bit value. POSITION_ZERO is refused STATE or BUSY, or the
position becomes 0 and both accumulators move with it. Which phase is up is a free value, and the note in the command is not
read (the model's choice, notes/assumptions/8.md). -/
def Obligations.EncoderAndPosition : Prop :=
  (∀ (s : State) (chanA chanB up : Bool),
     let sampled : State := { s with xhs := { s.xhs with chanA := chanA, chanB := chanB } }
     let differs : Bool := decide (s.xhs.chanA ≠ chanB)
     (chanA = s.xhs.chanA → chanB = s.xhs.chanB → exec (.encoderTransition chanA chanB up) s = .next s) ∧
     ((chanA = s.xhs.chanA ↔ chanB ≠ s.xhs.chanB) →
       exec (.encoderTransition chanA chanB up) s = .next { sampled with xhs := { sampled.xhs with
         count := if differs = Config.upPhase then s.xhs.count + 1 else s.xhs.count - 1 } }) ∧
     (chanA ≠ s.xhs.chanA → chanB ≠ s.xhs.chanB →
       exec (.encoderTransition chanA chanB up) s = .next (sampled.trip .encoder)) ∧
     s.position = (BitVec.ofInt 32 ((s.xhs.count - s.xhs.zeroCount).toInt * 5)).toInt) ∧
  (∀ (s : State) (tag : Byte), s.lnk.free →
     let zeroed : State :=
       { s with xhs := { s.xhs with
           zeroCount := s.xhs.count, posAcc := s.xhs.posAcc - s.position * 12000,
           modelAcc := s.xhs.modelAcc - s.position * 12000 } }
     (s.testing = true → exec (.positionZero tag) s = .next (s.turnedAway 0x12 tag .state 0)) ∧
     (s.testing = false → (s.xhs.mode = .jog ∨ s.xhs.mode = .move) →
       exec (.positionZero tag) s = .next (s.turnedAway 0x12 tag .busy 0)) ∧
     (s.testing = false → s.xhs.mode ≠ .jog → s.xhs.mode ≠ .move →
       exec (.positionZero tag) s = .next (zeroed.acked 0x12 tag []) ∧ zeroed.position = 0))

/-- MONITOR_TEST is refused CHAIN, STATE or BUSY, or a fresh test begins; 16 servo expiries in DISABLED then prove the
monitor and put MONITOR_DONE(PASS). At one expiry of a test in progress the shifted comparison moves the consecutive count,
which starts again at the second half; the 16th ends the test with MONITOR_DONE(PASS) when both halves have reached 3, and
otherwise with MONITOR_DONE(FAIL) and monitor-proven no. The progress of the test has one more bit than section 4.1 (the
model's choice, notes/assumptions/20.md). -/
def Obligations.MonitorTestProves : Prop :=
  (∀ (s : State) (tag : Byte),
     (s.lnk.free →
       (s.dec.chain = .closed → exec (.monitorTest tag) s = .next (s.turnedAway 0x16 tag .chain 0)) ∧
       (s.dec.chain = .opened → s.testing = true →
         exec (.monitorTest tag) s = .next (s.turnedAway 0x16 tag .state 0)) ∧
       (s.dec.chain = .opened → s.testing = false → (s.ldc.shunt ≠ none ∨ s.xhs.monitor ≠ none) →
         exec (.monitorTest tag) s = .next (s.turnedAway 0x16 tag .busy 0)) ∧
       (s.dec.chain = .opened → s.testing = false → s.ldc.shunt = none → s.xhs.monitor = none →
         exec (.monitorTest tag) s = .next (State.acked 0x16 tag []
           { s with xhs := { s.xhs with monitor := some ⟨0, 0, false, none⟩ } }))) ∧
     (s.xhs.mode = .disabled → s.xhs.monitor = some ⟨0, 0, false, none⟩ → 0 ≤ s.xhs.config.trackTolerance →
       Host.Core.run Sys2Proof.core 16 { s with pending := List.replicate 16 Instr.servoExpiry ++ s.pending } =
         .next (State.put (.monitorDone true) { s with xhs := { s.xhs with
           monitor := none, monitorProven := true, velocity := 0, speedWord := 0, modelVelocity := 0,
           modelAcc := s.position * 12000, trackCount := 0 } }))) ∧
  (∀ (s : State) (k : MonitorTest), s.xhs.mode = .disabled → s.xhs.monitor = some k →
     let tolerance := s.xhs.config.trackTolerance
     let compared : Int := if k.taken < 8 then s.position + (tolerance + 1) else s.position - (tolerance + 1)
     let before : Nat := if k.taken = 8 then 0 else k.count
     let count : Nat := if tolerance < ((compared - s.position).natAbs : Int) then before + 1 else 0
     let reached : Bool := (k.reached && decide (k.taken ≠ 8)) || decide (3 ≤ count)
     let rest (monitor : Option MonitorTest) : State :=
       { s with xhs := { s.xhs with
           monitor := monitor, velocity := 0, speedWord := 0, modelVelocity := 0, modelAcc := s.position * 12000,
           trackCount := 0 } }
     let ended (pass : Bool) : State :=
       State.put (.monitorDone pass) { rest none with xhs := { (rest none).xhs with monitorProven := pass } }
     let passes : Prop := reached = true ∧ k.firstHalf = some true
     (k.taken ≠ 15 → exec .servoExpiry s =
       .next (rest (some ⟨k.taken + 1, count, reached, if k.taken = 7 then some reached else k.firstHalf⟩))) ∧
     (k.taken = 15 → passes → exec .servoExpiry s = .next (ended true)) ∧
     (k.taken = 15 → ¬ passes → exec .servoExpiry s = .next (ended false)))

/-- JOG, MOVE_TO and STOP are refused STATE in a test state; JOG and MOVE_TO are refused CHAIN with the chain OPEN, and STOP
then changes nothing. With the chain CLOSED outside a test, a speed or target outside its range is refused BAD_VALUE, and
otherwise the mode, the demand, the rate, the renewal time and the target become what each rule says, with the event of a
jog or move that ends. In every state the lapse of a running jog acts when its renewal time is reached; a lapse that is not
due changes nothing (the model's choice, notes/assumptions/7.md). -/
def Obligations.JogMoveStop : Prop :=
  (∀ (s : State) (tag : Byte) (speed target : Word), s.lnk.free → s.testing = false → s.dec.chain = .closed →
     let still : State :=
       { s with xhs := { s.xhs with
           mode := .still, posAcc := s.position * 12000, effRate := 0, target := none, jogRenewal := none } }
     let jogging : State :=
       { s with xhs := { s.xhs with
           mode := .jog, effRate := speed.toInt, target := none,
           jogRenewal := some (s.dio.partTime + BitVec.ofNat 32 300) } }
     let moving : State :=
       { s with xhs := { s.xhs with mode := .move, target := some ⟨target.toInt, speed.toInt⟩, jogRenewal := none } }
     let jogs : Prop := -600000 ≤ speed.toInt ∧ speed.toInt ≤ 600000
     let moves : Prop := 1 ≤ speed.toInt ∧ speed.toInt ≤ 600000 ∧ s.xhs.config.softLower ≤ target.toInt ∧
       target.toInt ≤ s.xhs.config.softUpper
     (¬ jogs → exec (.jog tag speed) s = .next (s.turnedAway 0x17 tag .badValue 0)) ∧
     (jogs → speed.toInt ≠ 0 → (s.xhs.mode = .still ∨ s.xhs.mode = .jog) →
       exec (.jog tag speed) s = .next (jogging.acked 0x17 tag [])) ∧
     (jogs → speed.toInt ≠ 0 → s.xhs.mode = .move →
       exec (.jog tag speed) s = .next ((jogging.put (.moveDone false)).acked 0x17 tag [])) ∧
     (speed.toInt = 0 → s.xhs.mode = .still → exec (.jog tag speed) s = .next (s.acked 0x17 tag [])) ∧
     (speed.toInt = 0 → s.xhs.mode = .jog →
       exec (.jog tag speed) s = .next ((still.put (.jogStop .request)).acked 0x17 tag [])) ∧
     (speed.toInt = 0 → s.xhs.mode = .move →
       exec (.jog tag speed) s = .next ((still.put (.moveDone false)).acked 0x17 tag [])) ∧
     (¬ moves → exec (.moveTo tag target speed) s = .next (s.turnedAway 0x18 tag .badValue 0)) ∧
     (moves → s.xhs.mode = .still → exec (.moveTo tag target speed) s = .next (moving.acked 0x18 tag [])) ∧
     (moves → s.xhs.mode = .move →
       exec (.moveTo tag target speed) s = .next ((moving.put (.moveDone false)).acked 0x18 tag [])) ∧
     (moves → s.xhs.mode = .jog →
       exec (.moveTo tag target speed) s = .next ((moving.put (.jogStop .request)).acked 0x18 tag [])) ∧
     (s.xhs.mode = .still → exec (.stop tag) s = .next (still.acked 0x19 tag [])) ∧
     (s.xhs.mode = .jog → exec (.stop tag) s = .next ((still.put (.jogStop .request)).acked 0x19 tag [])) ∧
     (s.xhs.mode = .move → exec (.stop tag) s = .next ((still.put (.moveDone false)).acked 0x19 tag []))) ∧
  (∀ s : State,
     (s.xhs.mode = .jog → s.xhs.jogRenewal = some s.dio.partTime →
       exec .jogLapse s = .next (State.put (.jogStop .timeout) { s with xhs := { s.xhs with
         mode := .still, posAcc := s.position * 12000, effRate := 0, target := none, jogRenewal := none } })) ∧
     ((s.xhs.mode ≠ .jog ∨ s.xhs.jogRenewal ≠ some s.dio.partTime) → exec .jogLapse s = .next s)) ∧
  (∀ (s : State) (tag : Byte) (speed target : Word), s.lnk.free →
     (s.testing = true →
       exec (.jog tag speed) s = .next (s.turnedAway 0x17 tag .state 0) ∧
       exec (.moveTo tag target speed) s = .next (s.turnedAway 0x18 tag .state 0) ∧
       exec (.stop tag) s = .next (s.turnedAway 0x19 tag .state 0)) ∧
     (s.testing = false → s.dec.chain = .opened →
       exec (.jog tag speed) s = .next (s.turnedAway 0x17 tag .chain 0) ∧
       exec (.moveTo tag target speed) s = .next (s.turnedAway 0x18 tag .chain 0) ∧
       (s.xhs.mode = .disabled → exec (.stop tag) s = .next (s.acked 0x19 tag []))))

/-- FRAME_CONFIG is refused CHAIN or BAD_VALUE, or every field takes the written value; a change of track tolerance or τ
clears monitor-proven and ends a monitor test with MONITOR_DONE(FAIL). -/
def Obligations.FrameConfigWrites : Prop :=
  ∀ (s : State) (tag : Byte) (f : FrameConfigFields), s.lnk.free →
    let c : FrameConfig :=
      { maxSpeed := f.maxSpeed.toInt, guardSpeed := f.guardSpeed.toInt, fullScale := f.fullScale.toInt,
        softLower := f.softLower.toInt, softUpper := f.softUpper.toInt, trackTolerance := f.trackTolerance.toInt,
        tau := f.tau.toInt, kpPos := f.kpPos.toInt, kStrain := f.kStrain.toInt, kStress := f.kStress.toInt,
        compliance := f.compliance.toInt, frameOverload := f.frameOverload.toInt }
    let within (lo hi x : Int) : Prop := lo ≤ x ∧ x ≤ hi
    let good : Prop :=
      within 1 600000 c.maxSpeed ∧ within 1 60000 c.guardSpeed ∧ within 1 1000000 c.fullScale ∧
      within 100 1000000 c.trackTolerance ∧ within 1000 200000 c.tau ∧ within 0 6000 c.kpPos ∧
      within 0 100000 c.kStrain ∧ within 0 100000 c.kStress ∧ within 0 100000 c.compliance ∧
      within 1 8000000 c.frameOverload ∧ c.softLower < c.softUpper ∧
      (∀ p : Profile, s.tsq.active = some p → p.spec.testOverload ≤ c.frameOverload)
    let written : State := { s with xhs := { s.xhs with config := c } }
    let kept : Prop := c.trackTolerance = s.xhs.config.trackTolerance ∧ c.tau = s.xhs.config.tau
    (s.dec.chain = .closed → exec (.frameConfig tag f) s = .next (s.turnedAway 0x07 tag .chain 0)) ∧
    (s.dec.chain = .opened → ¬ good → exec (.frameConfig tag f) s = .next (s.turnedAway 0x07 tag .badValue 0)) ∧
    (s.dec.chain = .opened → good → kept → exec (.frameConfig tag f) s = .next (written.acked 0x07 tag [])) ∧
    (s.dec.chain = .opened → good → ¬ kept → s.xhs.monitor = none → exec (.frameConfig tag f) s =
      .next (State.acked 0x07 tag [] { written with xhs := { written.xhs with monitorProven := false } })) ∧
    (s.dec.chain = .opened → good → ¬ kept → s.xhs.monitor ≠ none → exec (.frameConfig tag f) s =
      .next (State.acked 0x07 tag [] (State.put (.monitorDone false)
        { written with xhs := { written.xhs with monitor := none, monitorProven := false } })))

/-- An expiry in DISABLED without a monitor test sets the model at the present position. In every other mode the six stages
follow: the command by mode and control class (the position law with the rate transition, the strain and stress laws with a
demand that holds a value, waits or lacks its quantity, the move and return up to arrival), the escape with the rest of the
demand, the clamp, the soft limits with JOG_STOP, SOFT_LIMIT and HOLDING(SOFT), the speed word, and the tracking check with
TRACKING at a count of 3, after which the model advances. The remainder of the accumulator at an arrival, 0 for a cleared
rate demand, a waiting demand that an escape leaves waiting and the count behind it are the model's choice
(notes/assumptions/17.md, 12.md, 13.md, 6.md). -/
def Obligations.ServoExpiryLaws : Prop :=
  (∀ s : State,
     let x := s.xhs
     let limit : Int := if s.dec.guardMode then min x.config.guardSpeed x.config.maxSpeed else x.config.maxSpeed
     let driven (y : Xhs) (command : Int) : State :=
       let v := clampTo (-limit) limit command
       let mv := x.modelVelocity + roundDiv ((v - x.modelVelocity) * 500) x.config.tau
       { s with xhs := { y with
           velocity := v, speedWord := clampTo (-32767) 32767 (roundDiv (v * 32767) x.config.fullScale), trackCount := 0,
           modelVelocity := mv, modelAcc := x.modelAcc + mv } }
     let calm : Prop :=
       x.escapeUp = false ∧ x.escapeDown = false ∧ x.config.softLower < s.position ∧ s.position < x.config.softUpper ∧
       ((Int.tdiv x.modelAcc 12000 - s.position).natAbs : Int) ≤ x.config.trackTolerance
     (x.mode = .disabled → x.monitor = none → exec .servoExpiry s = .next { s with xhs := { x with
         velocity := 0, speedWord := 0, modelVelocity := 0, modelAcc := s.position * 12000, trackCount := 0 } }) ∧
     (calm → x.mode = .still → exec .servoExpiry s = .next (driven { x with effRate := 0 }
       (roundDiv (x.config.kpPos * (Int.tdiv x.posAcc 12000 - s.position)) 10))) ∧
     (calm → x.mode = .jog → exec .servoExpiry s = .next (driven { x with posAcc := x.posAcc + x.effRate }
       (x.effRate + roundDiv (x.config.kpPos * (Int.tdiv (x.posAcc + x.effRate) 12000 - s.position)) 10))) ∧
     (∀ (acc e : Int) (l : LastSample), calm → x.mode = .step → x.controlClass = .strain → x.transition = none →
       x.rateAcc = .value acc → s.smp.last = some l → l.sample.strain = some e →
       exec .servoExpiry s = .next (driven { x with rateAcc := .value (acc + x.effRate) }
         (x.velocity + roundDiv (x.config.kStrain * (Int.tdiv (acc + x.effRate) 2000 - e)) 100)))) ∧
  (∀ s : State, s.xhs.mode ≠ .disabled →
     let config := s.xhs.config
     let limit : Int := if s.dec.guardMode then min config.guardSpeed config.maxSpeed else config.maxSpeed
     let escaped := State.applyEscape s.formCommand
     let limited := State.softLimits (escaped.1, clampTo (-limit) limit escaped.2)
     let t := limited.1
     let far : Prop := config.trackTolerance < ((Int.tdiv t.xhs.modelAcc 12000 - s.position).natAbs : Int)
     let driven (count : Nat) : State :=
       { t with xhs := { t.xhs with
           velocity := limited.2, speedWord := clampTo (-32767) 32767 (roundDiv (limited.2 * 32767) config.fullScale),
           trackCount := count } }
     let advanced (u : State) : State :=
       let mv := u.xhs.modelVelocity + roundDiv ((u.xhs.velocity - u.xhs.modelVelocity) * 500) config.tau
       { u with xhs := { u.xhs with modelVelocity := mv, modelAcc := u.xhs.modelAcc + mv } }
     (¬ far → exec .servoExpiry s = .next (advanced (driven 0))) ∧
     (far → t.xhs.trackCount < 2 → exec .servoExpiry s = .next (advanced (driven (t.xhs.trackCount + 1)))) ∧
     (far → 2 ≤ t.xhs.trackCount →
       exec .servoExpiry s = .next (advanced (State.trip .tracking (driven (t.xhs.trackCount + 1)))))) ∧
  (∀ s : State,
     let x := s.xhs
     let at_ (y : Xhs) (v : Int) : State × Int := ({ s with xhs := y }, v)
     let demand (y : Xhs) : Int := Int.tdiv y.posAcc 12000
     let law (y : Xhs) : Int := y.effRate + roundDiv (x.config.kpPos * (demand y - s.position)) 10
     let ramped : Xhs :=
       match x.transition with
       | none => x
       | some r =>
         if r.time ≤ r.elapsed + 500 then { x with effRate := r.target, transition := none }
         else { x with effRate := r.start + roundDiv ((r.target - r.start) * (r.elapsed + 500)) r.time,
                       transition := some { r with elapsed := r.elapsed + 500 } }
     let quantity : Option Int :=
       match s.smp.last, x.controlClass with
       | some l, .strain => l.sample.strain
       | some l, .stress => l.sample.stress
       | _, _ => none
     let rateLaw (acc q : Int) : Int :=
       let e := Int.tdiv acc 2000 - q
       x.velocity + (if x.controlClass = .strain then roundDiv (x.config.kStrain * e) 100
                     else roundDiv (x.config.kStress * e) 1000)
     let rate (acc : Int) : Xhs := { ramped with rateAcc := .value (acc + ramped.effRate) }
     let rateStep : Prop := x.mode = .step ∧ (x.controlClass = .strain ∨ x.controlClass = .stress)
     (x.mode = .still → s.formCommand = at_ { x with effRate := 0 } (law { x with effRate := 0 })) ∧
     (x.mode = .jog →
       let y := { x with posAcc := x.posAcc + x.effRate }
       s.formCommand = at_ y (law y)) ∧
     (x.mode = .step → x.controlClass = .position →
       let y := { ramped with posAcc := x.posAcc + ramped.effRate }
       s.formCommand = at_ y (law y)) ∧
     (∀ acc q : Int, rateStep → x.rateAcc = .value acc → quantity = some q →
       s.formCommand = at_ (rate acc) (rateLaw (acc + ramped.effRate) q)) ∧
     (∀ acc : Int, rateStep → x.rateAcc = .value acc → quantity = none → s.formCommand = at_ (rate acc) x.velocity) ∧
     (∀ (since : Nat) (q : Int), rateStep → x.rateAcc = .waiting since → quantity = some q → since < s.smp.composed →
       s.formCommand = at_ (rate (2000 * q)) (rateLaw (2000 * q + ramped.effRate) q)) ∧
     (∀ since : Nat, rateStep → x.rateAcc = .waiting since → (quantity = none ∨ s.smp.composed ≤ since) →
       s.formCommand = at_ x x.velocity) ∧
     (∀ g : MoveTarget, (x.mode = .move ∨ x.mode = .return) → x.target = some g →
       let going : Int := if demand x < g.position then g.speed else if g.position < demand x then -g.speed else 0
       let acc : Int :=
         if 0 < going then min (x.posAcc + going) (g.position * 12000)
         else if going < 0 then max (x.posAcc + going) (g.position * 12000) else x.posAcc
       let y := { x with effRate := going, posAcc := acc }
       let arrived : Prop := demand y = g.position ∧ (s.position - g.position).natAbs ≤ 10
       let rested := { y with mode := .still, effRate := 0, target := none }
       (¬ arrived → s.formCommand = at_ y (law y)) ∧
       (arrived → x.mode = .move →
         s.formCommand = (State.put (.moveDone true) { s with xhs := rested }, law rested)) ∧
       (arrived → x.mode = .return → s.tsq.state = .returning →
         s.formCommand = (State.enterEnded .break { s with xhs := rested }, law rested)))) ∧
  (∀ (s : State) (v : Int),
     let x := s.xhs
     let blocked : Prop := (x.escapeUp = true ∧ 0 < v) ∨ (x.escapeDown = true ∧ v < 0)
     let rateStep : Prop := x.mode = .step ∧ (x.controlClass = .strain ∨ x.controlClass = .stress)
     let quantity : Option Int :=
       match s.smp.last, x.controlClass with
       | some l, .strain => l.sample.strain
       | some l, .stress => l.sample.stress
       | _, _ => none
     (¬ blocked → State.applyEscape (s, v) = (s, v)) ∧
     (blocked → ¬ rateStep →
       State.applyEscape (s, v) = ({ s with xhs := { x with posAcc := s.position * 12000 } }, 0)) ∧
     (∀ acc q : Int, blocked → rateStep → x.rateAcc = .value acc → quantity = some q →
       State.applyEscape (s, v) = ({ s with xhs := { x with rateAcc := .value (2000 * q) } }, 0)) ∧
     (blocked → rateStep → (quantity = none ∨ ∃ since : Nat, x.rateAcc = .waiting since) →
       State.applyEscape (s, v) = (s, 0))) ∧
  (∀ (s : State) (v : Int),
     let x := s.xhs
     let above : Prop := x.config.softUpper ≤ s.position ∧ 0 < v
     let below : Prop := s.position ≤ x.config.softLower ∧ v < 0
     let at_ (y : Xhs) : State := { s with xhs := { y with posAcc := s.position * 12000 } }
     let still : Xhs := { x with mode := .still, effRate := 0, target := none, jogRenewal := none }
     let t := State.softLimits (s, v)
     (¬ above → ¬ below → t = (s, v)) ∧
     ((above ∨ below) → (x.mode = .still ∨ x.mode = .move) → t = (at_ x, 0)) ∧
     ((above ∨ below) → x.mode = .jog → t = ((at_ still).put (.jogStop .limit), 0)) ∧
     (∀ upper : Bool, (if upper then above else below) → x.mode = .step → s.tsq.state = .running →
       t = (State.putAll [.softLimit upper, .test (.holding .soft)]
         { s with
           xhs := { still with rateAcc := .value 0, transition := none, posAcc := s.position * 12000 }
           tsq := { s.tsq with state := .holding .soft } }, 0)) ∧
     (∀ upper : Bool, (if upper then above else below) → x.mode = .return → s.tsq.state = .returning →
       t = (State.enterEnded .break ((at_ still).put (.softLimit upper)), 0)))

/-- After every servo expiry the magnitude of the velocity command is at most the maximum speed, and at most the guard speed
when the expiry ran in guard mode, for every frame configuration with non-negative speeds. -/
def Obligations.VelocityWithinLimits : Prop :=
  ∀ s : State, 0 ≤ s.xhs.config.maxSpeed → 0 ≤ s.xhs.config.guardSpeed →
    ∃ t : State, exec .servoExpiry s = .next t ∧ (t.xhs.velocity.natAbs : Int) ≤ s.xhs.config.maxSpeed ∧
      (s.dec.guardMode = true → (t.xhs.velocity.natAbs : Int) ≤ s.xhs.config.guardSpeed)

/-! ### Test profiles -/

/-- PROFILE_SPEC_WRITE is refused BAD_VALUE for a text that is too long, or the spec part takes every written value and
presence mark, and the written marks are kept only when the step count is the one held before. PROFILE_STEP_WRITE is refused
BAD_VALUE for the slot or the count, or the slot takes the record whole with its written mark set. Nothing else changes. -/
def Obligations.ProfileWrites : Prop :=
  ∀ (s : State) (tag slot : Byte) (f : SpecFields) (r : StepRecord), s.lnk.free → f.wellFormed = true →
    let half (n : Nat) (v : Half) : Option Half := if f.presence.getLsbD n then some v else none
    let word (n : Nat) (v : Word) : Option Word := if f.presence.getLsbD n then some v else none
    let byte (n : Nat) (v : Byte) : Option Byte := if f.presence.getLsbD n then some v else none
    let spec : StagedSpec :=
      { s0 := f.s0, l0 := f.l0, lc := f.lc, eNominal := f.eNominal, specimen := f.specimen.take f.specimenLength.toNat,
        cast := f.cast.take f.castLength.toNat, plan := f.plan, fitLower := f.fitLower, fitUpper := f.fitUpper,
        offset := half 0 f.offset, yieldDrop := half 1 f.yieldDrop, transient := half 2 f.transient,
        yieldLimit := word 3 f.yieldLimit, yieldEnd := word 4 f.yieldEnd, armLoad := f.armLoad,
        breakStep := byte 5 f.breakStep, breakFloor := byte 6 f.breakFloor, testOverload := word 7 f.testOverload,
        returnAfter := f.returnAfter, returnSpeed := f.returnSpeed, traceBase := f.traceBase, stepCount := f.stepCount }
    let old := s.tsq.staged
    let staged (c : StagedCopy) : State := { s with tsq := { s.tsq with staged := c } }
    let cleared := old.slots.map fun k : StagedStep => { k with written := false }
    ((16 < f.specimenLength.toNat ∨ 12 < f.castLength.toNat) →
      exec (.profileSpecWrite tag f) s = .next (s.turnedAway 0x1A tag .badValue 0)) ∧
    (f.specimenLength.toNat ≤ 16 → f.castLength.toNat ≤ 12 →
      ((∃ g : StagedSpec, old.spec = some g ∧ g.stepCount = f.stepCount) →
        exec (.profileSpecWrite tag f) s =
          .next (State.acked 0x1A tag [] (staged { spec := some spec, slots := old.slots }))) ∧
      ((∀ g : StagedSpec, old.spec = some g → g.stepCount ≠ f.stepCount) →
        exec (.profileSpecWrite tag f) s =
          .next (State.acked 0x1A tag [] (staged { spec := some spec, slots := cleared })))) ∧
    ((11 < slot.toNat ∨ 2 < r.count.toNat) →
      exec (.profileStepWrite tag slot r) s = .next (s.turnedAway 0x1B tag .badValue 0)) ∧
    (∀ h : slot.toNat < 12, r.count.toNat ≤ 2 →
      exec (.profileStepWrite tag slot r) s =
        .next (State.acked 0x1B tag [] (staged { old with slots := old.slots.set slot.toNat ⟨r, true⟩ h })))

/-- The staged copy passes validation exactly when every spec field lies in its range of section 7.2 and every step slot
below the step count is written and lies in the ranges of section 7.3. Otherwise the failure reported is the first one in
the order of R134: the spec fields 1 to 22, then each step with its fields. The profile formed from a copy that passes has
every default resolved, rate 0 for HOLD, and steps 0 to count − 1 only. -/
def Obligations.ValidationAndForming : Prop :=
  (∀ (c : StagedCopy) (f : StagedSpec) (overload : Int),
     let within (lo hi x : Int) : Prop := lo ≤ x ∧ x ≤ hi
     let text (size : Nat) (t : List Byte) : Prop := t.length ≤ size ∧ ∀ b ∈ t, 0x20 ≤ b.toNat ∧ b.toNat ≤ 0x7E
     let halfIn (lo hi : Int) (o : Option Half) : Prop := ∀ v : Half, o = some v → within lo hi v.toNat
     let wordIn (lo hi : Int) (o : Option Word) : Prop := ∀ v : Word, o = some v → within lo hi v.toInt
     let byteIn (lo hi : Int) (o : Option Byte) : Prop := ∀ v : Byte, o = some v → within lo hi v.toNat
     let specGood : Prop :=
       within 1 10000000 f.s0.toInt ∧ within 10000 200000 f.l0.toInt ∧ within 10000 2000000 f.lc.toInt ∧
       within 50000 400000 f.eNominal.toInt ∧ text 16 f.specimen ∧ text 12 f.cast ∧ f.plan.toNat ≤ 1 ∧
       within 0 1999999 f.fitLower.toInt ∧ within 1 2000000 f.fitUpper.toInt ∧ f.fitLower.toInt < f.fitUpper.toInt ∧
       halfIn 100 20000 f.offset ∧ halfIn 10 1000 f.yieldDrop ∧ halfIn 0 1000 f.transient ∧
       wordIn 1000 100000 f.yieldLimit ∧ wordIn 1000 200000 f.yieldEnd ∧ within 1 8000000 f.armLoad.toInt ∧
       byteIn 1 90 f.breakStep ∧ byteIn 1 90 f.breakFloor ∧ wordIn 1 overload f.testOverload ∧ f.returnAfter.toNat ≤ 1 ∧
       within 1 600000 f.returnSpeed.toInt ∧ f.traceBase.toNat ∈ [1, 2, 4, 8, 16, 32, 64] ∧ within 1 12 f.stepCount.toNat
     let conditionGood (quantity : Byte) (threshold : Word) : Prop :=
       1 ≤ quantity.toNat ∧ quantity.toNat ≤ 7 ∧
       (quantity.toNat ≤ 2 → within (-2000000) 2000000 threshold.toInt) ∧
       (quantity.toNat = 3 → within (-8000000) 8000000 threshold.toInt) ∧
       (quantity.toNat = 7 → within 1 99 threshold.toInt)
     let stepGood (k : StagedStep) : Prop :=
       let r := k.record
       k.written = true ∧ r.mode.toNat ≤ 3 ∧ (r.mode.toNat = 0 → within 1 600000 r.rate.toInt) ∧
       (r.mode.toNat = 1 → within 1 100000 r.rate.toInt) ∧ (r.mode.toNat = 2 → within 1 500000 r.rate.toInt) ∧
       r.transition.toNat ≤ 5000 ∧ (1 ≤ r.count.toNat → conditionGood r.quantity1 r.threshold1) ∧
       (2 ≤ r.count.toNat → conditionGood r.quantity2 r.threshold2) ∧ r.release.toNat ≤ 1
     c.validate overload f = none ↔
       (specGood ∧ ∀ k ∈ c.slots.toList.take f.stepCount.toNat, stepGood k)) ∧
  (∀ (c : StagedCopy) (f : StagedSpec) (overload : Int) (part field : Nat),
     let within (lo hi x : Int) : Prop := lo ≤ x ∧ x ≤ hi
     let text (size : Nat) (t : List Byte) : Prop := t.length ≤ size ∧ ∀ b ∈ t, 0x20 ≤ b.toNat ∧ b.toNat ≤ 0x7E
     let halfIn (lo hi : Int) (o : Option Half) : Prop := ∀ v : Half, o = some v → within lo hi v.toNat
     let wordIn (lo hi : Int) (o : Option Word) : Prop := ∀ v : Word, o = some v → within lo hi v.toInt
     let byteIn (lo hi : Int) (o : Option Byte) : Prop := ∀ v : Byte, o = some v → within lo hi v.toNat
     let specGood : Nat → Prop
       | 1 => within 1 10000000 f.s0.toInt
       | 2 => within 10000 200000 f.l0.toInt
       | 3 => within 10000 2000000 f.lc.toInt
       | 4 => within 50000 400000 f.eNominal.toInt
       | 5 => text 16 f.specimen
       | 6 => text 12 f.cast
       | 7 => f.plan.toNat ≤ 1
       | 8 => within 0 1999999 f.fitLower.toInt
       | 9 => within 1 2000000 f.fitUpper.toInt ∧ f.fitLower.toInt < f.fitUpper.toInt
       | 10 => halfIn 100 20000 f.offset
       | 11 => halfIn 10 1000 f.yieldDrop
       | 12 => halfIn 0 1000 f.transient
       | 13 => wordIn 1000 100000 f.yieldLimit
       | 14 => wordIn 1000 200000 f.yieldEnd
       | 15 => within 1 8000000 f.armLoad.toInt
       | 16 => byteIn 1 90 f.breakStep
       | 17 => byteIn 1 90 f.breakFloor
       | 18 => wordIn 1 overload f.testOverload
       | 19 => f.returnAfter.toNat ≤ 1
       | 20 => within 1 600000 f.returnSpeed.toInt
       | 21 => f.traceBase.toNat ∈ [1, 2, 4, 8, 16, 32, 64]
       | 22 => within 1 12 f.stepCount.toNat
       | _ => True
     let quantityGood (q : Byte) : Prop := 1 ≤ q.toNat ∧ q.toNat ≤ 7
     let thresholdGood (q : Byte) (t : Word) : Prop :=
       (q.toNat ≤ 2 → within (-2000000) 2000000 t.toInt) ∧ (q.toNat = 3 → within (-8000000) 8000000 t.toInt) ∧
       (q.toNat = 7 → within 1 99 t.toInt)
     let stepGood (k : StagedStep) : Nat → Prop
       | 0 => k.written = true
       | 1 => k.record.mode.toNat ≤ 3
       | 2 => (k.record.mode.toNat = 0 → within 1 600000 k.record.rate.toInt) ∧
           (k.record.mode.toNat = 1 → within 1 100000 k.record.rate.toInt) ∧
           (k.record.mode.toNat = 2 → within 1 500000 k.record.rate.toInt)
       | 3 => k.record.transition.toNat ≤ 5000
       | 5 => 1 ≤ k.record.count.toNat → quantityGood k.record.quantity1
       | 6 => 1 ≤ k.record.count.toNat → thresholdGood k.record.quantity1 k.record.threshold1
       | 7 => 2 ≤ k.record.count.toNat → quantityGood k.record.quantity2
       | 8 => 2 ≤ k.record.count.toNat → thresholdGood k.record.quantity2 k.record.threshold2
       | 9 => k.record.release.toNat ≤ 1
       | _ => True
     c.validate overload f = some (part, field) ↔
       ((part = 255 ∧ ¬ specGood field ∧ ∀ m : Nat, m < field → specGood m) ∨
        ((∀ m : Nat, specGood m) ∧ part < f.stepCount.toNat ∧ ∃ k : StagedStep,
          c.slots.toList[part]? = some k ∧ ¬ stepGood k field ∧ (∀ m : Nat, m < field → stepGood k m) ∧
          ∀ (i : Nat) (before : StagedStep), i < part → c.slots.toList[i]? = some before → ∀ m : Nat, stepGood before m))) ∧
  (∀ (c : StagedCopy) (f : StagedSpec) (overload : Int), c.validate overload f = none →
     let halfOr (d : Int) (o : Option Half) : Int := match o with | some v => v.toNat | none => d
     let wordOr (d : Int) (o : Option Word) : Int := match o with | some v => v.toInt | none => d
     let byteOr (d : Int) (o : Option Byte) : Int := match o with | some v => v.toNat | none => d
     let mode (r : StepRecord) : StepMode :=
       if r.mode = 0 then .posRate else if r.mode = 1 then .strainRate else if r.mode = 2 then .stressRate else .hold
     c.form overload f =
       { spec :=
           { s0 := f.s0.toInt, l0 := f.l0.toInt, lc := f.lc.toInt, eNominal := f.eNominal.toInt, specimen := f.specimen,
             cast := f.cast, plan := if f.plan = 0 then .ext else .xhead, fitLower := f.fitLower.toInt,
             fitUpper := f.fitUpper.toInt, offset := halfOr 2000 f.offset, yieldDrop := halfOr 50 f.yieldDrop,
             transient := halfOr 100 f.transient, yieldLimit := wordOr 30000 f.yieldLimit,
             yieldEnd := wordOr 60000 f.yieldEnd, armLoad := f.armLoad.toInt, breakStep := byteOr 20 f.breakStep,
             breakFloor := byteOr 10 f.breakFloor, testOverload := wordOr overload f.testOverload,
             returnAfter := decide (f.returnAfter = 1), returnSpeed := f.returnSpeed.toInt,
             traceBase := f.traceBase.toNat },
         steps := (c.slots.toList.take f.stepCount.toNat).map fun k : StagedStep =>
           ({ mode := mode k.record, rate := if mode k.record = .hold then 0 else k.record.rate.toInt,
              transition := k.record.transition.toNat, count := k.record.count.toNat,
              cond1 := ⟨k.record.quantity1, k.record.threshold1⟩, cond2 := ⟨k.record.quantity2, k.record.threshold2⟩,
              release := decide (k.record.release = 1) } : ProfileStep) })

/-- PROFILE_COMMIT is refused STATE in RETURNING, NO_PROFILE with no spec part, BAD_VALUE with the field reference of the
first failure; in IDLE and ENDED the new profile becomes active with PROFILE_APPLIED(NOW); in RUNNING and HOLDING it becomes
pending when it leaves the spec part and steps 0 to k unchanged, and is refused LOCKED with the reference of the first
difference otherwise: the spec fields 1 to 21, the step count, then the steps 0 to k field by field. The comparison of
conditions beyond the count is the model's choice (notes/assumptions/19.md). -/
def Obligations.ProfileCommitOutcomes : Prop :=
  ∀ (s : State) (tag : Byte), s.lnk.free →
    let overload := s.xhs.config.frameOverload
    let refused (reason : Reason) (part field : Nat) : State :=
      s.turnedAway 0x1C tag reason (BitVec.ofNat 8 part ++ BitVec.ofNat 8 field)
    let specDiffers (new old : ProfileSpec) : Nat → Prop
      | 1 => new.s0 ≠ old.s0
      | 2 => new.l0 ≠ old.l0
      | 3 => new.lc ≠ old.lc
      | 4 => new.eNominal ≠ old.eNominal
      | 5 => new.specimen ≠ old.specimen
      | 6 => new.cast ≠ old.cast
      | 7 => new.plan ≠ old.plan
      | 8 => new.fitLower ≠ old.fitLower
      | 9 => new.fitUpper ≠ old.fitUpper
      | 10 => new.offset ≠ old.offset
      | 11 => new.yieldDrop ≠ old.yieldDrop
      | 12 => new.transient ≠ old.transient
      | 13 => new.yieldLimit ≠ old.yieldLimit
      | 14 => new.yieldEnd ≠ old.yieldEnd
      | 15 => new.armLoad ≠ old.armLoad
      | 16 => new.breakStep ≠ old.breakStep
      | 17 => new.breakFloor ≠ old.breakFloor
      | 18 => new.testOverload ≠ old.testOverload
      | 19 => new.returnAfter ≠ old.returnAfter
      | 20 => new.returnSpeed ≠ old.returnSpeed
      | 21 => new.traceBase ≠ old.traceBase
      | _ => False
    let stepDiffers (new old : ProfileStep) : Nat → Prop
      | 1 => new.mode ≠ old.mode
      | 2 => new.rate ≠ old.rate
      | 3 => new.transition ≠ old.transition
      | 4 => new.count ≠ old.count
      | 5 => new.cond1.quantity ≠ old.cond1.quantity
      | 6 => new.cond1.threshold ≠ old.cond1.threshold
      | 7 => new.cond2.quantity ≠ old.cond2.quantity
      | 8 => new.cond2.threshold ≠ old.cond2.threshold
      | 9 => new.release ≠ old.release
      | _ => False
    let firstDifference (new old : Profile) (k part field : Nat) : Prop :=
      (part = 255 ∧ specDiffers new.spec old.spec field ∧ ∀ m : Nat, m < field → ¬ specDiffers new.spec old.spec m) ∨
      (new.spec = old.spec ∧ new.steps.length < k + 1 ∧ part = 255 ∧ field = 22) ∨
      (new.spec = old.spec ∧ k + 1 ≤ new.steps.length ∧ part ≤ k ∧ new.steps.take part = old.steps.take part ∧
        ∃ a b : ProfileStep, new.steps[part]? = some a ∧ old.steps[part]? = some b ∧ stepDiffers a b field ∧
          ∀ m : Nat, m < field → ¬ stepDiffers a b m)
    (s.tsq.state = .returning → exec (.profileCommit tag) s = .next (s.turnedAway 0x1C tag .state 0)) ∧
    (s.tsq.state ≠ .returning → s.tsq.staged.spec = none →
      exec (.profileCommit tag) s = .next (s.turnedAway 0x1C tag .noProfile 0)) ∧
    (∀ (f : StagedSpec) (part field : Nat), s.tsq.state ≠ .returning → s.tsq.staged.spec = some f →
      s.tsq.staged.validate overload f = some (part, field) →
      exec (.profileCommit tag) s = .next (refused .badValue part field)) ∧
    (∀ f : StagedSpec, s.tsq.staged.spec = some f → s.tsq.staged.validate overload f = none →
      let p := s.tsq.staged.form overload f
      (s.testing = false → exec (.profileCommit tag) s = .next (State.acked 0x1C tag []
        (State.put (.profileApplied .now) { s with tsq := { s.tsq with active := some p } }))) ∧
      (∀ (old : Profile) (k : Nat), s.tsq.state.sampling = true → s.tsq.active = some old → s.tsq.step = some k →
        k < old.steps.length →
        let unchanged : Prop :=
          p.spec = old.spec ∧ k < p.steps.length ∧ p.steps.take (k + 1) = old.steps.take (k + 1)
        (unchanged → exec (.profileCommit tag) s =
          .next (State.acked 0x1C tag [] { s with tsq := { s.tsq with pendingCopy := some p } })) ∧
        (¬ unchanged → ∃ part field : Nat, firstDifference p old k part field ∧
          exec (.profileCommit tag) s = .next (refused .locked part field)) ∧
        (∀ part field : Nat, firstDifference p old k part field →
          exec (.profileCommit tag) s = .next (refused .locked part field))))

/-- PROFILE_READ is refused BAD_VALUE or NO_PROFILE by its checks in order, or answers the spec part or the step of the
named copy with its written mark; it changes nothing. The 88 bytes of a spec part and the 21 of a step hold every field at
its offset, as the copy holds it, with texts of at most 16 and 12 characters. The written mark 1 of a step, and every
presence bit of the spec part, of the active or pending copy are the model's choice (notes/assumptions/18.md). -/
def Obligations.ProfileReadAnswers : Prop :=
  (∀ (s : State) (tag copy part : Byte), s.lnk.free →
     let no (reason : Reason) : State := s.turnedAway 0x1D tag reason 0
     let index := part.toNat
     ((2 < copy.toNat ∨ (part ≠ 0xFF ∧ 11 < index)) →
       exec (.profileRead tag copy part) s = .next (no .badValue)) ∧
     ((part = 0xFF ∨ index ≤ 11) →
       (copy.toNat = 0 → s.tsq.staged.spec = none → exec (.profileRead tag copy part) s = .next (no .noProfile)) ∧
       (∀ f : StagedSpec, copy.toNat = 0 → s.tsq.staged.spec = some f →
         (part = 0xFF → exec (.profileRead tag copy part) s = .next (s.acked 0x1D tag (specBytes f.fields))) ∧
         (∀ h : index < 12, exec (.profileRead tag copy part) s = .next (s.acked 0x1D tag
           (stepAnswer part s.tsq.staged.slots[index].record s.tsq.staged.slots[index].written)))) ∧
       (∀ held : Option Profile,
         ((copy.toNat = 1 ∧ held = s.tsq.active) ∨ (copy.toNat = 2 ∧ held = s.tsq.pendingCopy)) →
         (held = none → exec (.profileRead tag copy part) s = .next (no .noProfile)) ∧
         (∀ p : Profile, held = some p →
           (part = 0xFF → exec (.profileRead tag copy part) s = .next (s.acked 0x1D tag (specBytes p.fields))) ∧
           (part ≠ 0xFF → p.steps.length ≤ index → exec (.profileRead tag copy part) s = .next (no .badValue)) ∧
           (∀ k : ProfileStep, part ≠ 0xFF → p.steps[index]? = some k →
             exec (.profileRead tag copy part) s = .next (s.acked 0x1D tag (stepAnswer part k.record true))))))) ∧
  ((∀ (slot : Byte) (r : StepRecord) (written : Bool),
     let a := stepAnswer slot r written
     a.length = 21 ∧ byteAt a 0 = slot ∧ byteAt a 1 = r.mode ∧ wordAt a 2 = r.rate ∧ halfAt a 6 = r.transition ∧
     byteAt a 8 = r.count ∧ byteAt a 9 = r.quantity1 ∧ wordAt a 10 = r.threshold1 ∧ byteAt a 14 = r.quantity2 ∧
     wordAt a 15 = r.threshold2 ∧ byteAt a 19 = r.release ∧ byteAt a 20 = (if written then 1 else 0)) ∧
   (∀ f : SpecFields, f.specimen.length = 16 → f.cast.length = 12 →
     let a := specBytes f
     a.length = 88 ∧ halfAt a 0 = f.presence ∧ wordAt a 2 = f.s0 ∧ wordAt a 6 = f.l0 ∧ wordAt a 10 = f.lc ∧
     wordAt a 14 = f.eNominal ∧ byteAt a 18 = f.specimenLength ∧ bytesAt a 19 16 = f.specimen ∧
     byteAt a 35 = f.castLength ∧ bytesAt a 36 12 = f.cast ∧ byteAt a 48 = f.plan ∧ wordAt a 49 = f.fitLower ∧
     wordAt a 53 = f.fitUpper ∧ halfAt a 57 = f.offset ∧ halfAt a 59 = f.yieldDrop ∧ halfAt a 61 = f.transient ∧
     wordAt a 63 = f.yieldLimit ∧ wordAt a 67 = f.yieldEnd ∧ wordAt a 71 = f.armLoad ∧ byteAt a 75 = f.breakStep ∧
     byteAt a 76 = f.breakFloor ∧ wordAt a 77 = f.testOverload ∧ byteAt a 81 = f.returnAfter ∧
     wordAt a 82 = f.returnSpeed ∧ byteAt a 86 = f.traceBase ∧ byteAt a 87 = f.stepCount) ∧
   (∀ f : StagedSpec, f.specimen.length ≤ 16 → f.cast.length ≤ 12 →
     let bits : List Bool := [f.offset.isSome, f.yieldDrop.isSome, f.transient.isSome, f.yieldLimit.isSome,
       f.yieldEnd.isSome, f.breakStep.isSome, f.breakFloor.isSome, f.testOverload.isSome]
     f.fields =
       { presence := f.fields.presence, s0 := f.s0, l0 := f.l0, lc := f.lc, eNominal := f.eNominal,
         specimenLength := BitVec.ofNat 8 f.specimen.length,
         specimen := f.specimen ++ List.replicate (16 - f.specimen.length) 0,
         castLength := BitVec.ofNat 8 f.cast.length, cast := f.cast ++ List.replicate (12 - f.cast.length) 0,
         plan := f.plan, fitLower := f.fitLower, fitUpper := f.fitUpper, offset := f.offset.getD 0,
         yieldDrop := f.yieldDrop.getD 0, transient := f.transient.getD 0, yieldLimit := f.yieldLimit.getD 0,
         yieldEnd := f.yieldEnd.getD 0, armLoad := f.armLoad, breakStep := f.breakStep.getD 0,
         breakFloor := f.breakFloor.getD 0, testOverload := f.testOverload.getD 0, returnAfter := f.returnAfter,
         returnSpeed := f.returnSpeed, traceBase := f.traceBase, stepCount := f.stepCount } ∧
     (∀ n : Nat, n < 16 → f.fields.presence.getLsbD n = bits.getD n false) ∧
     f.fields.specimen.length = 16 ∧ f.fields.cast.length = 12) ∧
   (∀ p : Profile, p.spec.specimen.length ≤ 16 → p.spec.cast.length ≤ 12 →
     let f := p.spec
     let word (x : Int) : Word := BitVec.ofInt 32 x
     p.fields =
       { presence := 0x00FF, s0 := word f.s0, l0 := word f.l0, lc := word f.lc, eNominal := word f.eNominal,
         specimenLength := BitVec.ofNat 8 f.specimen.length,
         specimen := f.specimen ++ List.replicate (16 - f.specimen.length) 0,
         castLength := BitVec.ofNat 8 f.cast.length, cast := f.cast ++ List.replicate (12 - f.cast.length) 0,
         plan := match f.plan with | .ext => 0 | .xhead => 1, fitLower := word f.fitLower,
         fitUpper := word f.fitUpper, offset := BitVec.ofInt 16 f.offset, yieldDrop := BitVec.ofInt 16 f.yieldDrop,
         transient := BitVec.ofInt 16 f.transient, yieldLimit := word f.yieldLimit, yieldEnd := word f.yieldEnd,
         armLoad := word f.armLoad, breakStep := BitVec.ofInt 8 f.breakStep, breakFloor := BitVec.ofInt 8 f.breakFloor,
         testOverload := word f.testOverload, returnAfter := if f.returnAfter then 1 else 0,
         returnSpeed := word f.returnSpeed, traceBase := BitVec.ofInt 8 f.traceBase,
         stepCount := BitVec.ofNat 8 p.steps.length } ∧
     p.fields.specimen.length = 16 ∧ p.fields.cast.length = 12) ∧
   (∀ k : ProfileStep,
     k.record =
       { mode := match k.mode with | .posRate => 0 | .strainRate => 1 | .stressRate => 2 | .hold => 3
         rate := BitVec.ofInt 32 k.rate, transition := BitVec.ofInt 16 k.transition, count := BitVec.ofNat 8 k.count,
         quantity1 := k.cond1.quantity, threshold1 := k.cond1.threshold, quantity2 := k.cond2.quantity,
         threshold2 := k.cond2.threshold, release := if k.release then 1 else 0 }))

/-! ### Running a test -/

/-- TEST_START is refused STATE, NO_PROFILE, CHAIN, NOT_READY, NO_CAL, BUSY or NOT_SEATED by its checks in order. Accepted,
TSQ, SMP, RES, TRB and XHS take their start values, TEST, SOURCE and STEP(0) are put in this order, and an open guard trips.
The counters of composed samples and the mark of a record in flight are the model's own (notes/assumptions/6.md, 21.md). -/
def Obligations.TestStart : Prop :=
  (∀ (s : State) (tag : Byte), s.lnk.free →
     let no (reason : Reason) : Host.Outcome State Fault Refusal := .next (s.turnedAway 0x1E tag reason 0)
     let grips : Prop := s.asserted .gripUpper = true ∧ s.asserted .gripLower = true
     let arms : List ArmState := [s.xtc.armA.state, s.xtc.armB.state]
     let busy : Prop :=
       s.ldc.tareProgress ≠ none ∨ s.ldc.shunt ≠ none ∨ s.xhs.monitor ≠ none ∨ s.xhs.mode = .jog ∨ s.xhs.mode = .move ∨
       .seating ∈ arms ∨ .zeroing ∈ arms
     (s.testing = true → exec (.testStart tag) s = no .state) ∧
     (s.testing = false → s.tsq.active = none → exec (.testStart tag) s = no .noProfile) ∧
     (∀ p : Profile, s.testing = false → s.tsq.active = some p →
       (s.dec.chain = .opened → exec (.testStart tag) s = no .chain) ∧
       (s.dec.chain = .closed →
         (¬ grips → exec (.testStart tag) s = no .notReady) ∧
         (grips → s.ldc.table s.ldc.range = [] → exec (.testStart tag) s = no .noCal) ∧
         (grips → s.ldc.table s.ldc.range ≠ [] →
           (busy → exec (.testStart tag) s = no .busy) ∧
           (¬ busy → p.spec.plan = .ext → .zeroed ∉ arms → exec (.testStart tag) s = no .notSeated) ∧
           (¬ busy → (p.spec.plan = .xhead ∨ .zeroed ∈ arms) →
             exec (.testStart tag) s = .next (State.acked 0x1E tag [] (s.startTest p))))))) ∧
  (∀ (s : State) (p : Profile) (first : ProfileStep), p.steps[0]? = some first →
     let source : StrainSource :=
       match p.spec.plan with
       | .xhead => .xhead
       | .ext =>
         if s.xtc.armA.state = .zeroed then (if s.xtc.armB.state = .zeroed then .extAvg else .extA)
         else if s.xtc.armB.state = .zeroed then .extB else .none
     let begun : Xhs :=
       { s.xhs with mode := .step, effRate := 0, transition := some ⟨0, first.rate, first.transition * 1000, 0⟩ }
     let ready : State :=
       { s with
         tsq := { s.tsq with
           state := .running, step := some 0, stepTime := 0, startPosition := s.position, prevLoaded := none,
           breakFound := false, fracture := none }
         smp := { s.smp with
           source := source, sourceOffset := 0, handoverMark := false, forcedMark := false, index := 0,
           zeroRef := match s.smp.last with | some l => l.basis.corrected | none => s.position,
           composedAtStart := s.smp.composed }
         res :=
           { items := { State.reset.res.items with record := { State.reset.res.items.record with
               specimen := some p.spec.specimen, cast := some p.spec.cast } }
             retained := none }
         trb := { s.trb with
           buffer := [], gap := false, base := p.spec.traceBase.toNat, factor := p.spec.traceBase.toNat, lastIndex := none,
           inFlight := if s.trb.inFlight = .no then .no else .discarded }
         xhs := match first.mode with
           | .posRate => { begun with controlClass := .position, posAcc := s.position * 12000 }
           | .hold => { begun with controlClass := .position, posAcc := s.position * 12000 }
           | .strainRate => { begun with controlClass := .strain, rateAcc := .waiting s.smp.composed }
           | .stressRate => { begun with controlClass := .stress, rateAcc := .waiting s.smp.composed } }
     let told := State.putAll
       ([.test .running] ++ (if s.smp.source = source then [] else [.source source .start]) ++ [.step 0]) ready
     s.startTest p = if s.asserted .guard then told else told.trip .guard)

/-- TEST_HOLD holds a running test at the present position, changes nothing in HOLDING and is refused STATE otherwise.
TEST_RESUME takes the current step up again from a hold on request, is refused LIMIT from a soft-limit hold and STATE
otherwise. TEST_ABORT stops the servo, discards a pending copy and ends the test as ENDED(ABORT_REQUEST), and is refused
STATE outside a test state. That a cleared rate demand is 0 and how a waiting demand is marked are the model's choice
(notes/assumptions/12.md, 6.md). -/
def Obligations.TestHoldResumeAbort : Prop :=
  ∀ (s : State) (tag : Byte), s.lnk.free →
    let still : Xhs :=
      { s.xhs with mode := .still, posAcc := s.position * 12000, effRate := 0, target := none, jogRenewal := none,
                   rateAcc := .value 0, transition := none }
    let ended : Prop := s.tsq.state = .idle ∨ ∃ r : EndReason, s.tsq.state = .ended r
    (s.tsq.state = .running → exec (.testHold tag) s = .next (State.acked 0x1F tag []
      (State.put (.test (.holding .request))
        { s with xhs := still, tsq := { s.tsq with state := .holding .request } }))) ∧
    (∀ c : HoldCause, s.tsq.state = .holding c → exec (.testHold tag) s = .next (s.acked 0x1F tag [])) ∧
    ((ended ∨ s.tsq.state = .returning) → exec (.testHold tag) s = .next (s.turnedAway 0x1F tag .state 0)) ∧
    (∀ k : ProfileStep, s.tsq.state = .holding .request → s.currentStep = some k →
      let begun : Xhs := { s.xhs with mode := .step, effRate := 0, transition := some ⟨0, k.rate, k.transition * 1000, 0⟩ }
      exec (.testResume tag) s = .next (State.acked 0x20 tag [] (State.put (.test .running)
        { s with
          tsq := { s.tsq with state := .running }
          xhs := match k.mode with
            | .posRate => { begun with controlClass := .position, posAcc := s.position * 12000 }
            | .hold => { begun with controlClass := .position, posAcc := s.position * 12000 }
            | .strainRate => { begun with controlClass := .strain, rateAcc := .waiting s.smp.composed }
            | .stressRate => { begun with controlClass := .stress, rateAcc := .waiting s.smp.composed } }))) ∧
    (s.tsq.state = .holding .soft → exec (.testResume tag) s = .next (s.turnedAway 0x20 tag .limit 0)) ∧
    ((ended ∨ s.tsq.state = .running ∨ s.tsq.state = .returning) →
      exec (.testResume tag) s = .next (s.turnedAway 0x20 tag .state 0)) ∧
    (s.testing = true → exec (.testAbort tag) s = .next (State.acked 0x21 tag []
      (State.enterEnded .abortRequest { s with xhs := still, tsq := { s.tsq with pendingCopy := none } }))) ∧
    (s.testing = false → exec (.testAbort tag) s = .next (s.turnedAway 0x21 tag .state 0))

/-- The entry to ENDED sets the state, applies a pending copy with PROFILE_APPLIED or on an abort discards it, puts TEST,
makes the source follow the averaging set with SOURCE when it changes, finalises the figures when no break was found, writes
the end reason and the mark, and puts RESULT_READY, in this order. -/
def Obligations.EntryToEnded : Prop :=
  ∀ (s : State) (reason : EndReason),
    let marked : Bool := decide (reason = .lastStep ∨ reason = .break ∨ (reason = .abortRequest ∧ s.tsq.breakFound = true))
    let applies : Bool := decide (reason ≠ .abortRequest) && s.tsq.pendingCopy.isSome
    let active : Option Profile := if applies then s.tsq.pendingCopy else s.tsq.active
    let source : StrainSource :=
      if s.xtc.armA.state = .zeroed then (if s.xtc.armB.state = .zeroed then .extAvg else .extA)
      else if s.xtc.armB.state = .zeroed then .extB else .none
    let items : ResItems :=
      match s.tsq.breakFound, active with
      | false, some p => s.res.items.finalise p.spec
      | _, _ => s.res.items
    s.enterEnded reason = State.putAll
      ((if applies then [.profileApplied .testEnd] else []) ++ [.test (.ended reason)] ++
        (if s.smp.source = source then [] else [.source source .testEnd]) ++ [.resultReady reason marked])
      { s with
        tsq := { s.tsq with state := .ended reason, active := active, pendingCopy := none }
        smp := { s.smp with source := source, sourceOffset := 0, handoverMark := false, forcedMark := false }
        res := { s.res with items := { items with record :=
          { items.record with reason := some reason, final := some marked } } } }

/-- A sample in RUNNING on which no break is found counts a step time, becomes the previous loaded sample when it is loaded
and not HELD, and makes a step boundary exactly when an end condition of the current step, within its end condition count,
is met. A sample in HOLDING on which no break is found only becomes the previous loaded sample, when it is one; outside
RUNNING and HOLDING TSQ takes none. Each of the seven conditions is met exactly as its row of the table says. -/
def Obligations.RunningSample : Prop :=
  (∀ (s : State) (m : Sample) (found : Bool), s.tsq.state = .running → s.breaksOn m = false →
     let counted : State :=
       { s with tsq := { s.tsq with
           stepTime := if s.tsq.stepTime < 4294967295 then s.tsq.stepTime + 1 else 4294967295,
           prevLoaded := match m.held, m.load with
             | false, some load => some ⟨m.index, load⟩
             | _, _ => s.tsq.prevLoaded } }
     s.testTake m found = if counted.stepEnds m found then counted.stepBoundary else counted) ∧
  (∀ (s : State) (m : Sample) (found : Bool),
     (∀ (p : Profile) (n : Nat) (k : ProfileStep), s.tsq.active = some p → s.tsq.step = some n → p.steps[n]? = some k →
       (s.stepEnds m found = true ↔
         ((1 ≤ k.count ∧ s.conditionMet p.spec m found k.cond1 = true) ∨
          (2 ≤ k.count ∧ s.conditionMet p.spec m found k.cond2 = true)))) ∧
     ((s.tsq.active = none ∨ s.tsq.step = none) → s.stepEnds m found = false)) ∧
  (∀ (p : ProfileSpec) (m : Sample) (found : Bool) (threshold : Word) (s : State),
     let on (quantity : Byte) : Prop := s.conditionMet p m found ⟨quantity, threshold⟩ = true
     (on 1 ↔ ∃ x : Int, m.strain = some x ∧ threshold.toInt ≤ x) ∧
     (on 2 ↔ ∃ x : Int, m.stress = some x ∧ threshold.toInt ≤ x) ∧
     (on 3 ↔ ∃ x : Int, m.load = some x ∧ threshold.toInt ≤ x) ∧
     (on 4 ↔ threshold.toInt ≤ m.position - s.tsq.startPosition) ∧
     (on 5 ↔ threshold.toNat ≤ s.tsq.stepTime) ∧
     (on 6 ↔ found = true) ∧
     (on 7 ↔ ∃ (fmax : FmaxFigure) (rm x : Int), s.res.items.record.fmax = some fmax ∧ s.res.items.record.rm = some rm ∧
       m.stress = some x ∧ p.armLoad ≤ fmax.load ∧ x ≤ roundDiv (rm * (100 - threshold.toInt)) 100)) ∧
  (∀ (s : State) (m : Sample) (found : Bool),
     (∀ c : HoldCause, s.tsq.state = .holding c → s.breaksOn m = false →
       s.testTake m found = { s with tsq := { s.tsq with
         prevLoaded := match m.held, m.load with
           | false, some load => some ⟨m.index, load⟩
           | _, _ => s.tsq.prevLoaded } }) ∧
     (s.tsq.state.sampling = false → s.testTake m found = s) ∧
     ((m.held = true ∨ m.load = none ∨ s.tsq.prevLoaded = none ∨ s.res.items.record.fmax = none) → s.breaksOn m = false))

/-- At a step boundary the release of the ending step is made first, then a pending copy becomes active with
PROFILE_APPLIED(BOUNDARY), then the next step begins, with the rate running on in the class in force and bumpless otherwise,
and STEP is put; with no next step the servo stops and the test ends as ENDED(LAST_STEP). That a cleared rate demand is 0
and how a waiting demand is marked are the model's choice (notes/assumptions/12.md, 6.md). -/
def Obligations.StepBoundaryOrder : Prop :=
  ∀ (s : State) (ending : ProfileStep) (k : Nat), s.tsq.step = some k → s.currentStep = some ending →
    let released := if ending.release then s.releaseStart true true false else s
    let applied :=
      match s.tsq.pendingCopy with
      | none => released
      | some p => State.put (.profileApplied .boundary)
          { released with tsq := { released.tsq with active := some p, pendingCopy := none } }
    (∀ (p : Profile) (next : ProfileStep), applied.tsq.active = some p → p.steps[k + 1]? = some next →
      let kind : ControlClass :=
        match next.mode with
        | .strainRate => .strain
        | .stressRate => .stress
        | _ => .position
      let x := applied.xhs
      let rest : Int := s.position * 12000
      let begun : Xhs :=
        if x.mode = .step ∧ x.controlClass = kind then
          { x with transition := some ⟨x.effRate, next.rate, next.transition * 1000, 0⟩,
                   posAcc := if next.mode = .hold then rest else x.posAcc }
        else
          { x with mode := .step, controlClass := kind, effRate := 0,
                   transition := some ⟨0, next.rate, next.transition * 1000, 0⟩,
                   posAcc := if kind = .position then rest else x.posAcc,
                   rateAcc := if kind = .position then x.rateAcc else .waiting s.smp.composed }
      s.stepBoundary = State.put (.step (k + 1))
        { applied with tsq := { applied.tsq with step := some (k + 1), stepTime := 0 }, xhs := begun }) ∧
    (∀ p : Profile, applied.tsq.active = some p → p.steps.length ≤ k + 1 →
      s.stepBoundary = State.enterEnded .lastStep
        { applied with xhs := { applied.xhs with
            mode := .still, posAcc := s.position * 12000, effRate := 0, target := none, jogRenewal := none,
            rateAcc := .value 0, transition := none } })

/-- A loaded sample with a previous one is a break sample exactly when Fmax has reached the break arm load and the step fall
or the floor is reached. Break found is then yes, the fracture sample is the previous loaded sample, no arm is left engaged,
and the test goes to RETURNING with the return reported to XHS, or ends as ENDED(BREAK) with a final record. The servo
stops, the protective release is made, RES is told of the break, BREAK is put with the current step and the index of the
fracture sample, and then the test returns or ends; RES holds the finalised record, with the end reason and the mark when
the test has ended. That a cleared rate demand is 0 is the model's choice (notes/assumptions/12.md). -/
def Obligations.BreakSample : Prop :=
  (∀ (s : State) (m : Sample) (found : Bool) (p : Profile) (prev : LoadedSample) (fmax : FmaxFigure) (load : Int),
     s.tsq.state.sampling = true → s.tsq.active = some p → m.held = false → m.load = some load →
     s.tsq.prevLoaded = some prev → s.res.items.record.fmax = some fmax →
     let armed : Prop := p.spec.armLoad ≤ fmax.load
     let falls : Prop := fmax.load * p.spec.breakStep ≤ (prev.load - load) * 100 ∨ load * 100 < fmax.load * p.spec.breakFloor
     (s.breaksOn m = true ↔ (armed ∧ falls)) ∧
     (armed → falls →
       let t := s.testTake m found
       t.tsq.breakFound = true ∧ t.tsq.fracture = some prev.index ∧ t.tsq.prevLoaded = some prev ∧
       t.tsq.step = s.tsq.step ∧ t.res.items.record.fracture = some prev.index ∧
       (∀ which : Arm, (t.arm which).state = .opened ∨ (t.arm which).state = .releasing ∨
         ∃ c : FaultCause, (t.arm which).state = .fault c) ∧
       (p.spec.returnAfter = true → t.tsq.state = .returning ∧ t.xhs.mode = .return ∧
         t.xhs.target = some ⟨s.tsq.startPosition, p.spec.returnSpeed⟩ ∧ t.tsq.pendingCopy = s.tsq.pendingCopy) ∧
       (p.spec.returnAfter = false → t.tsq.state = .ended .break ∧ t.xhs.mode = .still ∧
         t.res.items.record.reason = some .break ∧ t.res.items.record.final = some true))) ∧
  (∀ (s : State) (m : Sample) (found : Bool) (p : Profile) (prev : LoadedSample) (k : Nat),
     s.tsq.state.sampling = true → s.breaksOn m = true → s.tsq.active = some p → s.tsq.prevLoaded = some prev →
     s.tsq.step = some k →
     let engaged (which : Arm) : Bool :=
       match (s.arm which).state with
       | .opened => false
       | .fault _ => false
       | _ => true
     let stopped : State :=
       { s with
         tsq := { s.tsq with
           stepTime := if s.tsq.state = .running then min (s.tsq.stepTime + 1) 4294967295 else s.tsq.stepTime,
           breakFound := true, fracture := some prev.index }
         xhs := { s.xhs with
           mode := .still, posAcc := s.position * 12000, effRate := 0, target := none, jogRenewal := none,
           rateAcc := .value 0, transition := none } }
     let released : State := if engaged .a || engaged .b then stopped.releaseStart true true false else stopped
     let told : State := State.put (.breakFound k prev.index) (released.resBreak (some prev.index))
     let res : Res := (s.resBreak (some prev.index)).res
     let t := s.testTake m found
     (p.spec.returnAfter = true →
       t = { State.put (.test .returning) { told with tsq := { told.tsq with state := .returning } } with
         xhs := { told.xhs with mode := .return, target := some ⟨s.tsq.startPosition, p.spec.returnSpeed⟩ } } ∧
       t.res = res) ∧
     (p.spec.returnAfter = false →
       t = told.enterEnded .break ∧
       t.res = { res with items := { res.items with record :=
         { res.items.record with reason := some .break, final := some true } } }))

/-- Over every step of the part that leaves the test in RUNNING or HOLDING with the same current step, the active copy is
unchanged. -/
def Obligations.ActiveProfileHeldInStep : Prop :=
  ∀ s t : State, s.tsq.state.sampling = true → step s = .next t → t.tsq.state.sampling = true →
    t.tsq.step = s.tsq.step → t.tsq.active = s.tsq.active

/-! ### Results and trace records -/

/-- For the figures that RES forms from any sequence of qualifying samples of a test with S0 positive: Fmax is present, no
load is above it, and it is the load of one of the samples, with that sample's index; Rm is its stress, ReH is at most Rm,
ReL is at most ReH, and E lies between half and twice E nominal. -/
def Obligations.ResultOrder : Prop :=
  ∀ (p : ProfileSpec) (samples : List (Sample × Int)), 0 < p.s0 → 0 ≤ p.eNominal →
    let r := samples.foldl (fun (q : ResItems) x => (q.take p x.1 x.2 (stressOf p x.2)).1) (Res.started p).items
    (∀ x ∈ samples, ∃ f : FmaxFigure, r.record.fmax = some f ∧ x.2 ≤ f.load) ∧
    (∀ f : FmaxFigure, r.record.fmax = some f → ∃ x ∈ samples, x.2 = f.load ∧ x.1.index = f.index) ∧
    (∀ f : FmaxFigure, r.record.fmax = some f → r.record.rm = some (stressOf p f.load)) ∧
    (∀ h : CurvePoint, r.record.reh = some h → ∃ rm : Int, r.record.rm = some rm ∧ h.stress ≤ rm) ∧
    (∀ (h : CurvePoint) (l : Int), r.record.reh = some h → r.record.rel = some l → l ≤ h.stress) ∧
    (∀ e : EFigure, r.record.e = some e → p.eNominal ≤ 2 * e.e ∧ e.e ≤ 2 * p.eNominal)

/-- The fit window closes on a sample under XHEAD or above fit upper, at the declaration of ReH and at finalisation, forming
E; a sample between fit lower and fit upper under an extensometer source enters the five sums. Rp is taken on the first
search sample whose plastic strain is at least the offset, by interpolation from the previous one, and lies between the
stresses of the two; its sample is the first yield sample unless one was found before; with no previous one the search ends
in the note WINDOW. Finalisation closes an open fit window with E, ends the searches, forms Ag at the Fmax sample with the
final E, and changes no other field of the record. -/
def Obligations.ProofStressAndFinalisation : Prop :=
  (∀ (p : ProfileSpec) (m : Sample) (stress strain : Int) (r : ResItems) (e : EFigure) (k : SearchSample),
     r.rpSearch = .searching → r.record.e = some e → r.prevSearch = some k → k.plastic < p.offset →
     let plastic := strain - roundDiv (stress * 10000) e.e
     let t := r.takeProof p m stress strain
     (plastic < p.offset → t = ({ r with prevSearch := some ⟨m.index, stress, strain, plastic⟩ }, none)) ∧
     (p.offset ≤ plastic →
       let rp := k.stress + roundDiv ((stress - k.stress) * (p.offset - k.plastic)) (plastic - k.plastic)
       let strainAt := k.strain + roundDiv ((strain - k.strain) * (p.offset - k.plastic)) (plastic - k.plastic)
       t = ({ r with
              rpSearch := .done
              firstYield := match r.firstYield with | some first => some first | none => some m.index
              record := { r.record with rp := some ⟨rp, strainAt, m.index, m.source⟩ } },
            some (.yield .rp rp)) ∧
       min k.stress stress ≤ rp ∧ rp ≤ max k.stress stress)) ∧
  (∀ (p : ProfileSpec) (m : Sample) (stress strain : Int) (r : ResItems),
     (∀ e : EFigure, r.rpSearch = .searching → r.record.e = some e → r.prevSearch = none →
       let plastic := strain - roundDiv (stress * 10000) e.e
       (plastic < p.offset →
         r.takeProof p m stress strain = ({ r with prevSearch := some ⟨m.index, stress, strain, plastic⟩ }, none)) ∧
       (p.offset ≤ plastic → r.takeProof p m stress strain =
         ({ r with rpSearch := .window, record := { r.record with rpWindow := true } }, none))) ∧
     (r.rpSearch ≠ .searching → r.takeProof p m stress strain = (r, none))) ∧
  (∀ (p : ProfileSpec) (m : Sample) (stress : Int) (r : ResItems),
     let closed (q : ResItems) : ResItems :=
       let n : Int := q.sums.n
       let d : Int := n * q.sums.xx - q.sums.x * q.sums.x
       let fit : Int := roundDiv ((n * q.sums.xy - q.sums.x * q.sums.y) * 10000) d
       let modulus : EFigure :=
         if 20 ≤ n ∧ 0 < d then
           (if p.eNominal ≤ 2 * fit ∧ fit ≤ 2 * p.eNominal then ⟨fit, .fit, q.sums.n⟩ else ⟨p.eNominal, .rejected, q.sums.n⟩)
         else ⟨p.eNominal, .nominal, q.sums.n⟩
       { q with fitOpen := false, rpSearch := .searching, prevSearch := none, record := { q.record with e := some modulus } }
     let closes : Prop := m.source = .xhead ∨ p.fitUpper < stress
     let enters : Prop := m.strain ≠ none ∧ p.fitLower ≤ stress ∧ m.source ≠ .none
     let x : Int := match m.strain with | some v => v | none => 0
     let f := r.sums
     let entered : ResItems :=
       { r with sums := ⟨f.n + 1, f.x + x, f.y + stress, f.xx + x * x, f.xy + x * stress⟩ }
     (r.fitOpen = false → r.takeFit p m stress = r) ∧
     (r.fitOpen = true → closes → r.takeFit p m stress = closed r) ∧
     (r.fitOpen = true → ¬ closes → enters → f.n + 1 ≠ 4294967295 → r.takeFit p m stress = entered) ∧
     (r.fitOpen = true → ¬ closes → enters → f.n + 1 = 4294967295 → r.takeFit p m stress = closed entered) ∧
     (r.fitOpen = true → ¬ closes → ¬ enters → r.takeFit p m stress = r) ∧
     r.closeFit p = (if r.fitOpen then closed r else r)) ∧
  (∀ (p : ProfileSpec) (r : ResItems),
     let n : Int := r.sums.n
     let d : Int := n * r.sums.xx - r.sums.x * r.sums.x
     let fit : Int := roundDiv ((n * r.sums.xy - r.sums.x * r.sums.y) * 10000) d
     let modulus : EFigure :=
       if 20 ≤ n ∧ 0 < d then
         (if p.eNominal ≤ 2 * fit ∧ fit ≤ 2 * p.eNominal then ⟨fit, .fit, r.sums.n⟩ else ⟨p.eNominal, .rejected, r.sums.n⟩)
       else ⟨p.eNominal, .nominal, r.sums.n⟩
     let e : Option EFigure := if r.fitOpen then some modulus else r.record.e
     let t := r.finalise p
     t.fitOpen = false ∧ t.sums = r.sums ∧
     t.rpSearch = (if r.fitOpen ∨ r.rpSearch = .waiting ∨ r.rpSearch = .searching then .lapsed else r.rpSearch) ∧
     t.yieldSearch = (match r.yieldSearch with
       | .upper => .lapsed
       | .lower => .complete
       | y => y) ∧
     t.record = { r.record with
       e := e,
       ag := match r.fmaxSample, e with
         | some f, some g => f.strain.map fun x => x - roundDiv (f.stress * 10000) g.e
         | _, _ => none })

/-- TRACE_CONFIG in a test state takes streaming OFF alone and is refused STATE otherwise; in IDLE and ENDED streaming, base
and factor take the written values, or it is refused BAD_VALUE; nothing else changes. A delivered sample becomes a record
exactly when one is due by the three conditions of its rule, in a second cycle of the index too (the model's choice,
notes/assumptions/26.md); it is stored with the gap mark and the factor in force, after which the factor doubles at a fill
of 384 or more; at a full buffer it is discarded with the gap mark set. -/
def Obligations.TraceRecords : Prop :=
  (∀ (s : State) (tag streaming base : Byte), s.lnk.free →
     (s.testing = true → streaming.toNat ≠ 0 →
       exec (.traceConfig tag streaming base) s = .next (s.turnedAway 0x23 tag .state 0)) ∧
     (s.testing = true → streaming.toNat = 0 → exec (.traceConfig tag streaming base) s =
       .next (State.acked 0x23 tag [] { s with trb := { s.trb with streaming := false } })) ∧
     (s.testing = false → (1 < streaming.toNat ∨ base.toNat ∉ [1, 2, 4, 8, 16, 32, 64]) →
       exec (.traceConfig tag streaming base) s = .next (s.turnedAway 0x23 tag .badValue 0)) ∧
     (s.testing = false → streaming.toNat ≤ 1 → base.toNat ∈ [1, 2, 4, 8, 16, 32, 64] →
       exec (.traceConfig tag streaming base) s = .next (State.acked 0x23 tag []
         { s with trb := { s.trb with
             streaming := decide (streaming.toNat = 1), base := base.toNat, factor := base.toNat } }))) ∧
  (∀ (s : State) (m : Sample), 0 < s.trb.factor →
     let due : Prop :=
       s.trb.streaming = true ∧ s.trb.factor ∣ m.index.toNat ∧
       (s.testing = true → ∀ i : Word, s.trb.lastIndex = some i → i.toNat < m.index.toNat)
     let last : Option Word := if s.testing then some m.index else s.trb.lastIndex
     let stored : Trb :=
       { s.trb with buffer := s.trb.buffer ++ [⟨m, s.trb.gap, s.trb.factor⟩], gap := false, lastIndex := last }
     (¬ due → s.traceTake m = s) ∧
     (due → 512 ≤ s.trb.buffer.length → s.traceTake m = { s with trb := { s.trb with gap := true, lastIndex := last } }) ∧
     (due → s.trb.buffer.length < 512 → (s.trb.buffer.length < 383 ∨ 64 ≤ s.trb.factor) →
       s.traceTake m = { s with trb := stored }) ∧
     (due → 383 ≤ s.trb.buffer.length → s.trb.buffer.length < 512 → s.trb.factor < 64 →
       s.traceTake m = State.put (.decim (s.trb.factor * 2))
         { s with trb := { stored with factor := s.trb.factor * 2 } }))

/-! ### The yield search and the break record -/

/-- RES passes over a HELD sample and one without stress; any other is taken in the order of R168, with the state before it
retained and the YIELD events put. The yield search lapses at the search limit, keeps the candidate of greatest stress,
declares ReH at the yield drop and closes the fit window, forms ReL after the transient, and ends with Ae above ReH or
beyond the yield end strain. At a break RES returns to the retained state, finalises it, and forms A at the fracture sample
with the final E. -/
def Obligations.YieldAndBreakRecord : Prop :=
  (∀ (s : State) (m : Sample),
     (∀ (p : Profile) (load stress : Int), s.tsq.active = some p → m.held = false → m.load = some load →
       m.stress = some stress →
       let r := s.res.items
       let higher : Prop := ∀ f : FmaxSample, r.fmaxSample = some f → f.load < load
       ∀ forced : ResItems,
         (higher → forced = { r with
           fmaxSample := some ⟨m.index, load, stress, m.strain⟩
           record := { r.record with fmax := some ⟨load, m.index⟩, rm := some stress } }) →
         (¬ higher → forced = r) →
         let searched : ResItems × Option Event :=
           match m.strain with
           | some strain => forced.takeYield p.spec m.index stress strain
           | none => (forced, none)
         let fitted := searched.1.takeFit p.spec m stress
         let proved : ResItems × Option Event :=
           match m.strain, r.rpSearch with
           | some strain, .searching => fitted.takeProof p.spec m stress strain
           | _, _ => (fitted, none)
         s.resTake m = State.putAll (searched.2.toList ++ proved.2.toList)
           { s with res :=
             { items := { proved.1 with lastTaken := some ⟨m.index, stress, m.strain⟩ }, retained := some r } }) ∧
     ((m.held = true ∨ m.stress = none) → s.resTake m = s)) ∧
  (∀ (p : ProfileSpec) (i : Word) (stress strain : Int) (r : ResItems),
     let t := r.takeYield p i stress strain
     let here : CurvePoint := ⟨i, stress, strain⟩
     (r.yieldSearch = .upper → p.yieldLimit ≤ strain → t = ({ r with yieldSearch := .lapsed }, none)) ∧
     (r.yieldSearch = .upper → strain < p.yieldLimit → r.candidate = none →
       t = ({ r with candidate := some here }, none)) ∧
     (∀ c : CurvePoint, r.yieldSearch = .upper → strain < p.yieldLimit → r.candidate = some c →
       let declares : Prop := p.fitUpper < c.stress ∧ stress ≤ roundDiv (c.stress * (10000 - p.yieldDrop)) 10000
       let declared := ResItems.closeFit p
         { r with record := { r.record with reh := some c }, declared := some i, yieldSearch := .lower }
       (declares → t =
         ({ declared with firstYield := match r.firstYield with | some first => some first | none => some i },
          some (.yield .reh c.stress))) ∧
       (¬ declares → c.stress < stress → t = ({ r with candidate := some here }, none)) ∧
       (¬ declares → stress ≤ c.stress → t = (r, none))) ∧
     (∀ (h : CurvePoint) (d : Word), r.yieldSearch = .lower → r.record.reh = some h → r.declared = some d →
       let ends : Prop := h.stress < stress ∨ h.strain + p.yieldEnd < strain
       let compared : Prop := (d.toNat : Int) + p.transient < (i.toNat : Int)
       (ends → t =
         ({ r with yieldSearch := .complete, record := { r.record with ae := some (strain - h.strain) } }, none)) ∧
       let lower : Int := match r.record.rel with | some l => min l stress | none => stress
       (¬ ends → compared → t = ({ r with record := { r.record with rel := some lower } }, none)) ∧
       (¬ ends → ¬ compared → t = (r, none))) ∧
     ((r.yieldSearch = .complete ∨ r.yieldSearch = .lapsed) → t = (r, none))) ∧
  (∀ (s : State) (p : Profile) (fracture : Option Word), s.tsq.active = some p →
     let back : ResItems := match s.res.retained with | some r => r | none => s.res.items
     let final := back.finalise p.spec
     let a : Option Int :=
       match back.lastTaken, final.record.e with
       | some k, some e => k.strain.map fun x => x - roundDiv (k.stress * 10000) e.e
       | _, _ => none
     s.resBreak fracture = { s with res :=
       { items := { final with record := { final.record with a := a, fracture := fracture } }, retained := s.res.retained } })
end

