-- ==== Sys2Proof/Laws/Bytes.lean ====
section
/-! SUPPORT. A field of two or four bytes is read back as it was written, high byte first (R218). -/

namespace Sys2Proof

/-- The four bytes of a word, joined high byte first, are the word. -/
theorem word_join (w : Word) :
    ((w.extractLsb' 24 8 ++ w.extractLsb' 16 8) ++ w.extractLsb' 8 8) ++ w.extractLsb' 0 8 = w := by
  apply BitVec.eq_of_getLsbD_eq
  intro i hi
  simp only [BitVec.getLsbD_append, BitVec.getLsbD_extractLsb']
  split
  · simp_all
  · split
    · rename_i h1 h2
      have : 8 + (i - 8) = i := by omega
      simp [this, h2]
    · split
      · rename_i h1 h2 h3
        have : 16 + (i - 8 - 8) = i := by omega
        simp [this, h3]
      · rename_i h1 h2 h3
        have : 24 + (i - 8 - 8 - 8) = i := by omega
        simp [this]; omega

/-- The two bytes of a half, joined high byte first, are the half. -/
theorem half_join (h : Half) : h.extractLsb' 8 8 ++ h.extractLsb' 0 8 = h := by
  apply BitVec.eq_of_getLsbD_eq
  intro i hi
  simp only [BitVec.getLsbD_append, BitVec.getLsbD_extractLsb']
  split
  · simp_all
  · rename_i h1
    have : 8 + (i - 8) = i := by omega
    simp [this]; omega

end Sys2Proof
end

