-- ==== Sys2Proof/Laws/State.lean ====
section
/-! SUPPORT. One lemma per field per named update of the state: which fields the update leaves as they were. -/

namespace Sys2Proof.Machine

variable (s : State)

@[simp] theorem put_dio (e : Event) : (s.put e).dio = s.dio := by
  unfold State.put; split <;> rfl
@[simp] theorem put_ldc (e : Event) : (s.put e).ldc = s.ldc := by
  unfold State.put; split <;> rfl
@[simp] theorem put_xtc (e : Event) : (s.put e).xtc = s.xtc := by
  unfold State.put; split <;> rfl
@[simp] theorem put_smp (e : Event) : (s.put e).smp = s.smp := by
  unfold State.put; split <;> rfl
@[simp] theorem put_xhs (e : Event) : (s.put e).xhs = s.xhs := by
  unfold State.put; split <;> rfl
@[simp] theorem put_dec (e : Event) : (s.put e).dec = s.dec := by
  unfold State.put; split <;> rfl
@[simp] theorem put_tsq (e : Event) : (s.put e).tsq = s.tsq := by
  unfold State.put; split <;> rfl
@[simp] theorem put_res (e : Event) : (s.put e).res = s.res := by
  unfold State.put; split <;> rfl
@[simp] theorem put_trb (e : Event) : (s.put e).trb = s.trb := by
  unfold State.put; split <;> rfl
@[simp] theorem put_lnk (e : Event) : (s.put e).lnk = s.lnk := by
  unfold State.put; split <;> rfl
@[simp] theorem put_pending (e : Event) : (s.put e).pending = s.pending := by
  unfold State.put; split <;> rfl

@[simp] theorem enterTest_dio (t : TestState) : (s.enterTest t).dio = s.dio := by
  simp [State.enterTest]
@[simp] theorem enterTest_ldc (t : TestState) : (s.enterTest t).ldc = s.ldc := by
  simp [State.enterTest]
@[simp] theorem enterTest_xtc (t : TestState) : (s.enterTest t).xtc = s.xtc := by
  simp [State.enterTest]
@[simp] theorem enterTest_smp (t : TestState) : (s.enterTest t).smp = s.smp := by
  simp [State.enterTest]
@[simp] theorem enterTest_xhs (t : TestState) : (s.enterTest t).xhs = s.xhs := by
  simp [State.enterTest]
@[simp] theorem enterTest_dec (t : TestState) : (s.enterTest t).dec = s.dec := by
  simp [State.enterTest]
@[simp] theorem enterTest_res (t : TestState) : (s.enterTest t).res = s.res := by
  simp [State.enterTest]
@[simp] theorem enterTest_trb (t : TestState) : (s.enterTest t).trb = s.trb := by
  simp [State.enterTest]
@[simp] theorem enterTest_lnk (t : TestState) : (s.enterTest t).lnk = s.lnk := by
  simp [State.enterTest]
@[simp] theorem enterTest_pending (t : TestState) : (s.enterTest t).pending = s.pending := by
  simp [State.enterTest]

@[simp] theorem setInput_evq (i : Input) (r : InputRec) : (s.setInput i r).evq = s.evq := rfl
@[simp] theorem setInput_ldc (i : Input) (r : InputRec) : (s.setInput i r).ldc = s.ldc := rfl
@[simp] theorem setInput_xtc (i : Input) (r : InputRec) : (s.setInput i r).xtc = s.xtc := rfl
@[simp] theorem setInput_smp (i : Input) (r : InputRec) : (s.setInput i r).smp = s.smp := rfl
@[simp] theorem setInput_xhs (i : Input) (r : InputRec) : (s.setInput i r).xhs = s.xhs := rfl
@[simp] theorem setInput_dec (i : Input) (r : InputRec) : (s.setInput i r).dec = s.dec := rfl
@[simp] theorem setInput_tsq (i : Input) (r : InputRec) : (s.setInput i r).tsq = s.tsq := rfl
@[simp] theorem setInput_res (i : Input) (r : InputRec) : (s.setInput i r).res = s.res := rfl
@[simp] theorem setInput_trb (i : Input) (r : InputRec) : (s.setInput i r).trb = s.trb := rfl
@[simp] theorem setInput_lnk (i : Input) (r : InputRec) : (s.setInput i r).lnk = s.lnk := rfl
@[simp] theorem setInput_pending (i : Input) (r : InputRec) : (s.setInput i r).pending = s.pending := rfl

@[simp] theorem noteTime_evq (us : Fin 1000) : (s.noteTime us).evq = s.evq := rfl
@[simp] theorem noteTime_ldc (us : Fin 1000) : (s.noteTime us).ldc = s.ldc := rfl
@[simp] theorem noteTime_xtc (us : Fin 1000) : (s.noteTime us).xtc = s.xtc := rfl
@[simp] theorem noteTime_smp (us : Fin 1000) : (s.noteTime us).smp = s.smp := rfl
@[simp] theorem noteTime_xhs (us : Fin 1000) : (s.noteTime us).xhs = s.xhs := rfl
@[simp] theorem noteTime_dec (us : Fin 1000) : (s.noteTime us).dec = s.dec := rfl
@[simp] theorem noteTime_tsq (us : Fin 1000) : (s.noteTime us).tsq = s.tsq := rfl
@[simp] theorem noteTime_res (us : Fin 1000) : (s.noteTime us).res = s.res := rfl
@[simp] theorem noteTime_trb (us : Fin 1000) : (s.noteTime us).trb = s.trb := rfl
@[simp] theorem noteTime_lnk (us : Fin 1000) : (s.noteTime us).lnk = s.lnk := rfl
@[simp] theorem noteTime_pending (us : Fin 1000) : (s.noteTime us).pending = s.pending := rfl

@[simp] theorem partTimeTick_evq : (s.partTimeTick).evq = s.evq := rfl
@[simp] theorem partTimeTick_ldc : (s.partTimeTick).ldc = s.ldc := rfl
@[simp] theorem partTimeTick_xtc : (s.partTimeTick).xtc = s.xtc := rfl
@[simp] theorem partTimeTick_smp : (s.partTimeTick).smp = s.smp := rfl
@[simp] theorem partTimeTick_xhs : (s.partTimeTick).xhs = s.xhs := rfl
@[simp] theorem partTimeTick_dec : (s.partTimeTick).dec = s.dec := rfl
@[simp] theorem partTimeTick_tsq : (s.partTimeTick).tsq = s.tsq := rfl
@[simp] theorem partTimeTick_res : (s.partTimeTick).res = s.res := rfl
@[simp] theorem partTimeTick_trb : (s.partTimeTick).trb = s.trb := rfl
@[simp] theorem partTimeTick_lnk : (s.partTimeTick).lnk = s.lnk := rfl
@[simp] theorem partTimeTick_pending : (s.partTimeTick).pending = s.pending := rfl

@[simp] theorem setArm_dio (w : Arm) (r : ArmRec) : (s.setArm w r).dio = s.dio := by
  cases w <;> rfl
@[simp] theorem setArm_evq (w : Arm) (r : ArmRec) : (s.setArm w r).evq = s.evq := by
  cases w <;> rfl
@[simp] theorem setArm_ldc (w : Arm) (r : ArmRec) : (s.setArm w r).ldc = s.ldc := by
  cases w <;> rfl
@[simp] theorem setArm_smp (w : Arm) (r : ArmRec) : (s.setArm w r).smp = s.smp := by
  cases w <;> rfl
@[simp] theorem setArm_xhs (w : Arm) (r : ArmRec) : (s.setArm w r).xhs = s.xhs := by
  cases w <;> rfl
@[simp] theorem setArm_dec (w : Arm) (r : ArmRec) : (s.setArm w r).dec = s.dec := by
  cases w <;> rfl
@[simp] theorem setArm_tsq (w : Arm) (r : ArmRec) : (s.setArm w r).tsq = s.tsq := by
  cases w <;> rfl
@[simp] theorem setArm_res (w : Arm) (r : ArmRec) : (s.setArm w r).res = s.res := by
  cases w <;> rfl
@[simp] theorem setArm_trb (w : Arm) (r : ArmRec) : (s.setArm w r).trb = s.trb := by
  cases w <;> rfl
@[simp] theorem setArm_lnk (w : Arm) (r : ArmRec) : (s.setArm w r).lnk = s.lnk := by
  cases w <;> rfl
@[simp] theorem setArm_pending (w : Arm) (r : ArmRec) : (s.setArm w r).pending = s.pending := by
  cases w <;> rfl

@[simp] theorem changeArm_dio (w : Arm) (r : ArmRec) : (s.changeArm w r).dio = s.dio := by
  simp [State.changeArm]
@[simp] theorem changeArm_ldc (w : Arm) (r : ArmRec) : (s.changeArm w r).ldc = s.ldc := by
  simp [State.changeArm]
@[simp] theorem changeArm_smp (w : Arm) (r : ArmRec) : (s.changeArm w r).smp = s.smp := by
  simp [State.changeArm]
@[simp] theorem changeArm_xhs (w : Arm) (r : ArmRec) : (s.changeArm w r).xhs = s.xhs := by
  simp [State.changeArm]
@[simp] theorem changeArm_dec (w : Arm) (r : ArmRec) : (s.changeArm w r).dec = s.dec := by
  simp [State.changeArm]
@[simp] theorem changeArm_tsq (w : Arm) (r : ArmRec) : (s.changeArm w r).tsq = s.tsq := by
  simp [State.changeArm]
@[simp] theorem changeArm_res (w : Arm) (r : ArmRec) : (s.changeArm w r).res = s.res := by
  simp [State.changeArm]
@[simp] theorem changeArm_trb (w : Arm) (r : ArmRec) : (s.changeArm w r).trb = s.trb := by
  simp [State.changeArm]
@[simp] theorem changeArm_lnk (w : Arm) (r : ArmRec) : (s.changeArm w r).lnk = s.lnk := by
  simp [State.changeArm]
@[simp] theorem changeArm_pending (w : Arm) (r : ArmRec) : (s.changeArm w r).pending = s.pending := by
  simp [State.changeArm]

@[simp] theorem countConfig_ldc : s.countConfig.ldc = s.ldc := rfl
@[simp] theorem countConfig_xtc : s.countConfig.xtc = s.xtc := rfl
@[simp] theorem countConfig_smp : s.countConfig.smp = s.smp := rfl
@[simp] theorem countConfig_xhs : s.countConfig.xhs = s.xhs := rfl
@[simp] theorem countConfig_dec : s.countConfig.dec = s.dec := rfl
@[simp] theorem countConfig_tsq : s.countConfig.tsq = s.tsq := rfl
@[simp] theorem countConfig_res : s.countConfig.res = s.res := rfl
@[simp] theorem countConfig_evq : s.countConfig.evq = s.evq := rfl
@[simp] theorem countConfig_trb : s.countConfig.trb = s.trb := rfl
@[simp] theorem countConfig_lnk : s.countConfig.lnk = s.lnk := rfl
@[simp] theorem countConfig_pending : s.countConfig.pending = s.pending := rfl

@[simp] theorem setShunt_dio (k : ShuntProgress) (en : Bool) : (s.setShunt k en).dio = s.dio := rfl
@[simp] theorem setShunt_evq (k : ShuntProgress) (en : Bool) : (s.setShunt k en).evq = s.evq := rfl
@[simp] theorem setShunt_xtc (k : ShuntProgress) (en : Bool) : (s.setShunt k en).xtc = s.xtc := rfl
@[simp] theorem setShunt_smp (k : ShuntProgress) (en : Bool) : (s.setShunt k en).smp = s.smp := rfl
@[simp] theorem setShunt_xhs (k : ShuntProgress) (en : Bool) : (s.setShunt k en).xhs = s.xhs := rfl
@[simp] theorem setShunt_dec (k : ShuntProgress) (en : Bool) : (s.setShunt k en).dec = s.dec := rfl
@[simp] theorem setShunt_tsq (k : ShuntProgress) (en : Bool) : (s.setShunt k en).tsq = s.tsq := rfl
@[simp] theorem setShunt_res (k : ShuntProgress) (en : Bool) : (s.setShunt k en).res = s.res := rfl
@[simp] theorem setShunt_trb (k : ShuntProgress) (en : Bool) : (s.setShunt k en).trb = s.trb := rfl
@[simp] theorem setShunt_lnk (k : ShuntProgress) (en : Bool) : (s.setShunt k en).lnk = s.lnk := rfl
@[simp] theorem setShunt_pending (k : ShuntProgress) (en : Bool) : (s.setShunt k en).pending = s.pending := rfl

@[simp] theorem servoStop_dio : (s.servoStop).dio = s.dio := rfl
@[simp] theorem servoStop_evq : (s.servoStop).evq = s.evq := rfl
@[simp] theorem servoStop_ldc : (s.servoStop).ldc = s.ldc := rfl
@[simp] theorem servoStop_xtc : (s.servoStop).xtc = s.xtc := rfl
@[simp] theorem servoStop_smp : (s.servoStop).smp = s.smp := rfl
@[simp] theorem servoStop_dec : (s.servoStop).dec = s.dec := rfl
@[simp] theorem servoStop_tsq : (s.servoStop).tsq = s.tsq := rfl
@[simp] theorem servoStop_res : (s.servoStop).res = s.res := rfl
@[simp] theorem servoStop_trb : (s.servoStop).trb = s.trb := rfl
@[simp] theorem servoStop_lnk : (s.servoStop).lnk = s.lnk := rfl
@[simp] theorem servoStop_pending : (s.servoStop).pending = s.pending := rfl

@[simp] theorem servoBegin_dio (p : ProfileStep) : (s.servoBegin p).dio = s.dio := rfl
@[simp] theorem servoBegin_evq (p : ProfileStep) : (s.servoBegin p).evq = s.evq := rfl
@[simp] theorem servoBegin_ldc (p : ProfileStep) : (s.servoBegin p).ldc = s.ldc := rfl
@[simp] theorem servoBegin_xtc (p : ProfileStep) : (s.servoBegin p).xtc = s.xtc := rfl
@[simp] theorem servoBegin_smp (p : ProfileStep) : (s.servoBegin p).smp = s.smp := rfl
@[simp] theorem servoBegin_dec (p : ProfileStep) : (s.servoBegin p).dec = s.dec := rfl
@[simp] theorem servoBegin_tsq (p : ProfileStep) : (s.servoBegin p).tsq = s.tsq := rfl
@[simp] theorem servoBegin_res (p : ProfileStep) : (s.servoBegin p).res = s.res := rfl
@[simp] theorem servoBegin_trb (p : ProfileStep) : (s.servoBegin p).trb = s.trb := rfl
@[simp] theorem servoBegin_lnk (p : ProfileStep) : (s.servoBegin p).lnk = s.lnk := rfl
@[simp] theorem servoBegin_pending (p : ProfileStep) : (s.servoBegin p).pending = s.pending := rfl

@[simp] theorem servoBumpless_dio (p : ProfileStep) : (s.servoBumpless p).dio = s.dio := rfl
@[simp] theorem servoBumpless_evq (p : ProfileStep) : (s.servoBumpless p).evq = s.evq := rfl
@[simp] theorem servoBumpless_ldc (p : ProfileStep) : (s.servoBumpless p).ldc = s.ldc := rfl
@[simp] theorem servoBumpless_xtc (p : ProfileStep) : (s.servoBumpless p).xtc = s.xtc := rfl
@[simp] theorem servoBumpless_smp (p : ProfileStep) : (s.servoBumpless p).smp = s.smp := rfl
@[simp] theorem servoBumpless_dec (p : ProfileStep) : (s.servoBumpless p).dec = s.dec := rfl
@[simp] theorem servoBumpless_tsq (p : ProfileStep) : (s.servoBumpless p).tsq = s.tsq := rfl
@[simp] theorem servoBumpless_res (p : ProfileStep) : (s.servoBumpless p).res = s.res := rfl
@[simp] theorem servoBumpless_trb (p : ProfileStep) : (s.servoBumpless p).trb = s.trb := rfl
@[simp] theorem servoBumpless_lnk (p : ProfileStep) : (s.servoBumpless p).lnk = s.lnk := rfl
@[simp] theorem servoBumpless_pending (p : ProfileStep) : (s.servoBumpless p).pending = s.pending := rfl

@[simp] theorem servoReturn_dio (target speed : Int) : (s.servoReturn target speed).dio = s.dio := rfl
@[simp] theorem servoReturn_evq (target speed : Int) : (s.servoReturn target speed).evq = s.evq := rfl
@[simp] theorem servoReturn_ldc (target speed : Int) : (s.servoReturn target speed).ldc = s.ldc := rfl
@[simp] theorem servoReturn_xtc (target speed : Int) : (s.servoReturn target speed).xtc = s.xtc := rfl
@[simp] theorem servoReturn_smp (target speed : Int) : (s.servoReturn target speed).smp = s.smp := rfl
@[simp] theorem servoReturn_dec (target speed : Int) : (s.servoReturn target speed).dec = s.dec := rfl
@[simp] theorem servoReturn_tsq (target speed : Int) : (s.servoReturn target speed).tsq = s.tsq := rfl
@[simp] theorem servoReturn_res (target speed : Int) : (s.servoReturn target speed).res = s.res := rfl
@[simp] theorem servoReturn_trb (target speed : Int) : (s.servoReturn target speed).trb = s.trb := rfl
@[simp] theorem servoReturn_lnk (target speed : Int) : (s.servoReturn target speed).lnk = s.lnk := rfl
@[simp] theorem servoReturn_pending (target speed : Int) : (s.servoReturn target speed).pending = s.pending := rfl

@[simp] theorem comeToStill_dio : (s.comeToStill).dio = s.dio := rfl
@[simp] theorem comeToStill_evq : (s.comeToStill).evq = s.evq := rfl
@[simp] theorem comeToStill_ldc : (s.comeToStill).ldc = s.ldc := rfl
@[simp] theorem comeToStill_xtc : (s.comeToStill).xtc = s.xtc := rfl
@[simp] theorem comeToStill_smp : (s.comeToStill).smp = s.smp := rfl
@[simp] theorem comeToStill_dec : (s.comeToStill).dec = s.dec := rfl
@[simp] theorem comeToStill_tsq : (s.comeToStill).tsq = s.tsq := rfl
@[simp] theorem comeToStill_res : (s.comeToStill).res = s.res := rfl
@[simp] theorem comeToStill_trb : (s.comeToStill).trb = s.trb := rfl
@[simp] theorem comeToStill_lnk : (s.comeToStill).lnk = s.lnk := rfl
@[simp] theorem comeToStill_pending : (s.comeToStill).pending = s.pending := rfl

@[simp] theorem beginJog_dio (speed : Int) : (s.beginJog speed).dio = s.dio := rfl
@[simp] theorem beginJog_evq (speed : Int) : (s.beginJog speed).evq = s.evq := rfl
@[simp] theorem beginJog_ldc (speed : Int) : (s.beginJog speed).ldc = s.ldc := rfl
@[simp] theorem beginJog_xtc (speed : Int) : (s.beginJog speed).xtc = s.xtc := rfl
@[simp] theorem beginJog_smp (speed : Int) : (s.beginJog speed).smp = s.smp := rfl
@[simp] theorem beginJog_dec (speed : Int) : (s.beginJog speed).dec = s.dec := rfl
@[simp] theorem beginJog_tsq (speed : Int) : (s.beginJog speed).tsq = s.tsq := rfl
@[simp] theorem beginJog_res (speed : Int) : (s.beginJog speed).res = s.res := rfl
@[simp] theorem beginJog_trb (speed : Int) : (s.beginJog speed).trb = s.trb := rfl
@[simp] theorem beginJog_lnk (speed : Int) : (s.beginJog speed).lnk = s.lnk := rfl
@[simp] theorem beginJog_pending (speed : Int) : (s.beginJog speed).pending = s.pending := rfl

@[simp] theorem beginMove_dio (target speed : Int) : (s.beginMove target speed).dio = s.dio := rfl
@[simp] theorem beginMove_evq (target speed : Int) : (s.beginMove target speed).evq = s.evq := rfl
@[simp] theorem beginMove_ldc (target speed : Int) : (s.beginMove target speed).ldc = s.ldc := rfl
@[simp] theorem beginMove_xtc (target speed : Int) : (s.beginMove target speed).xtc = s.xtc := rfl
@[simp] theorem beginMove_smp (target speed : Int) : (s.beginMove target speed).smp = s.smp := rfl
@[simp] theorem beginMove_dec (target speed : Int) : (s.beginMove target speed).dec = s.dec := rfl
@[simp] theorem beginMove_tsq (target speed : Int) : (s.beginMove target speed).tsq = s.tsq := rfl
@[simp] theorem beginMove_res (target speed : Int) : (s.beginMove target speed).res = s.res := rfl
@[simp] theorem beginMove_trb (target speed : Int) : (s.beginMove target speed).trb = s.trb := rfl
@[simp] theorem beginMove_lnk (target speed : Int) : (s.beginMove target speed).lnk = s.lnk := rfl
@[simp] theorem beginMove_pending (target speed : Int) : (s.beginMove target speed).pending = s.pending := rfl

@[simp] theorem endEscapeUp_dio : (s.endEscapeUp).dio = s.dio := rfl
@[simp] theorem endEscapeUp_evq : (s.endEscapeUp).evq = s.evq := rfl
@[simp] theorem endEscapeUp_ldc : (s.endEscapeUp).ldc = s.ldc := rfl
@[simp] theorem endEscapeUp_xtc : (s.endEscapeUp).xtc = s.xtc := rfl
@[simp] theorem endEscapeUp_smp : (s.endEscapeUp).smp = s.smp := rfl
@[simp] theorem endEscapeUp_dec : (s.endEscapeUp).dec = s.dec := rfl
@[simp] theorem endEscapeUp_tsq : (s.endEscapeUp).tsq = s.tsq := rfl
@[simp] theorem endEscapeUp_res : (s.endEscapeUp).res = s.res := rfl
@[simp] theorem endEscapeUp_trb : (s.endEscapeUp).trb = s.trb := rfl
@[simp] theorem endEscapeUp_lnk : (s.endEscapeUp).lnk = s.lnk := rfl
@[simp] theorem endEscapeUp_pending : (s.endEscapeUp).pending = s.pending := rfl

@[simp] theorem endEscapeDown_dio : (s.endEscapeDown).dio = s.dio := rfl
@[simp] theorem endEscapeDown_evq : (s.endEscapeDown).evq = s.evq := rfl
@[simp] theorem endEscapeDown_ldc : (s.endEscapeDown).ldc = s.ldc := rfl
@[simp] theorem endEscapeDown_xtc : (s.endEscapeDown).xtc = s.xtc := rfl
@[simp] theorem endEscapeDown_smp : (s.endEscapeDown).smp = s.smp := rfl
@[simp] theorem endEscapeDown_dec : (s.endEscapeDown).dec = s.dec := rfl
@[simp] theorem endEscapeDown_tsq : (s.endEscapeDown).tsq = s.tsq := rfl
@[simp] theorem endEscapeDown_res : (s.endEscapeDown).res = s.res := rfl
@[simp] theorem endEscapeDown_trb : (s.endEscapeDown).trb = s.trb := rfl
@[simp] theorem endEscapeDown_lnk : (s.endEscapeDown).lnk = s.lnk := rfl
@[simp] theorem endEscapeDown_pending : (s.endEscapeDown).pending = s.pending := rfl

@[simp] theorem noOverload_dio : (s.noOverload).dio = s.dio := rfl
@[simp] theorem noOverload_evq : (s.noOverload).evq = s.evq := rfl
@[simp] theorem noOverload_ldc : (s.noOverload).ldc = s.ldc := rfl
@[simp] theorem noOverload_xtc : (s.noOverload).xtc = s.xtc := rfl
@[simp] theorem noOverload_smp : (s.noOverload).smp = s.smp := rfl
@[simp] theorem noOverload_xhs : (s.noOverload).xhs = s.xhs := rfl
@[simp] theorem noOverload_tsq : (s.noOverload).tsq = s.tsq := rfl
@[simp] theorem noOverload_res : (s.noOverload).res = s.res := rfl
@[simp] theorem noOverload_trb : (s.noOverload).trb = s.trb := rfl
@[simp] theorem noOverload_lnk : (s.noOverload).lnk = s.lnk := rfl
@[simp] theorem noOverload_pending : (s.noOverload).pending = s.pending := rfl

@[simp] theorem guardClosed_dio : (s.guardClosed).dio = s.dio := rfl
@[simp] theorem guardClosed_evq : (s.guardClosed).evq = s.evq := rfl
@[simp] theorem guardClosed_ldc : (s.guardClosed).ldc = s.ldc := rfl
@[simp] theorem guardClosed_xtc : (s.guardClosed).xtc = s.xtc := rfl
@[simp] theorem guardClosed_smp : (s.guardClosed).smp = s.smp := rfl
@[simp] theorem guardClosed_xhs : (s.guardClosed).xhs = s.xhs := rfl
@[simp] theorem guardClosed_tsq : (s.guardClosed).tsq = s.tsq := rfl
@[simp] theorem guardClosed_res : (s.guardClosed).res = s.res := rfl
@[simp] theorem guardClosed_trb : (s.guardClosed).trb = s.trb := rfl
@[simp] theorem guardClosed_lnk : (s.guardClosed).lnk = s.lnk := rfl
@[simp] theorem guardClosed_pending : (s.guardClosed).pending = s.pending := rfl

@[simp] theorem dropPending_dio : (s.dropPending).dio = s.dio := rfl
@[simp] theorem dropPending_evq : (s.dropPending).evq = s.evq := rfl
@[simp] theorem dropPending_ldc : (s.dropPending).ldc = s.ldc := rfl
@[simp] theorem dropPending_xtc : (s.dropPending).xtc = s.xtc := rfl
@[simp] theorem dropPending_smp : (s.dropPending).smp = s.smp := rfl
@[simp] theorem dropPending_xhs : (s.dropPending).xhs = s.xhs := rfl
@[simp] theorem dropPending_dec : (s.dropPending).dec = s.dec := rfl
@[simp] theorem dropPending_res : (s.dropPending).res = s.res := rfl
@[simp] theorem dropPending_trb : (s.dropPending).trb = s.trb := rfl
@[simp] theorem dropPending_lnk : (s.dropPending).lnk = s.lnk := rfl
@[simp] theorem dropPending_pending : (s.dropPending).pending = s.pending := rfl

@[simp] theorem holdPending_dio (p : Profile) : (s.holdPending p).dio = s.dio := rfl
@[simp] theorem holdPending_evq (p : Profile) : (s.holdPending p).evq = s.evq := rfl
@[simp] theorem holdPending_ldc (p : Profile) : (s.holdPending p).ldc = s.ldc := rfl
@[simp] theorem holdPending_xtc (p : Profile) : (s.holdPending p).xtc = s.xtc := rfl
@[simp] theorem holdPending_smp (p : Profile) : (s.holdPending p).smp = s.smp := rfl
@[simp] theorem holdPending_xhs (p : Profile) : (s.holdPending p).xhs = s.xhs := rfl
@[simp] theorem holdPending_dec (p : Profile) : (s.holdPending p).dec = s.dec := rfl
@[simp] theorem holdPending_res (p : Profile) : (s.holdPending p).res = s.res := rfl
@[simp] theorem holdPending_trb (p : Profile) : (s.holdPending p).trb = s.trb := rfl
@[simp] theorem holdPending_lnk (p : Profile) : (s.holdPending p).lnk = s.lnk := rfl
@[simp] theorem holdPending_pending (p : Profile) : (s.holdPending p).pending = s.pending := rfl

@[simp] theorem startSequence_dio : (s.startSequence).dio = s.dio := rfl
@[simp] theorem startSequence_evq : (s.startSequence).evq = s.evq := rfl
@[simp] theorem startSequence_ldc : (s.startSequence).ldc = s.ldc := rfl
@[simp] theorem startSequence_xtc : (s.startSequence).xtc = s.xtc := rfl
@[simp] theorem startSequence_smp : (s.startSequence).smp = s.smp := rfl
@[simp] theorem startSequence_xhs : (s.startSequence).xhs = s.xhs := rfl
@[simp] theorem startSequence_dec : (s.startSequence).dec = s.dec := rfl
@[simp] theorem startSequence_res : (s.startSequence).res = s.res := rfl
@[simp] theorem startSequence_trb : (s.startSequence).trb = s.trb := rfl
@[simp] theorem startSequence_lnk : (s.startSequence).lnk = s.lnk := rfl
@[simp] theorem startSequence_pending : (s.startSequence).pending = s.pending := rfl

@[simp] theorem countStep_dio : (s.countStep).dio = s.dio := rfl
@[simp] theorem countStep_evq : (s.countStep).evq = s.evq := rfl
@[simp] theorem countStep_ldc : (s.countStep).ldc = s.ldc := rfl
@[simp] theorem countStep_xtc : (s.countStep).xtc = s.xtc := rfl
@[simp] theorem countStep_smp : (s.countStep).smp = s.smp := rfl
@[simp] theorem countStep_xhs : (s.countStep).xhs = s.xhs := rfl
@[simp] theorem countStep_dec : (s.countStep).dec = s.dec := rfl
@[simp] theorem countStep_res : (s.countStep).res = s.res := rfl
@[simp] theorem countStep_trb : (s.countStep).trb = s.trb := rfl
@[simp] theorem countStep_lnk : (s.countStep).lnk = s.lnk := rfl
@[simp] theorem countStep_pending : (s.countStep).pending = s.pending := rfl

@[simp] theorem storeSample_dio (m : Sample) (b : Basis) : (s.storeSample m b).dio = s.dio := rfl
@[simp] theorem storeSample_evq (m : Sample) (b : Basis) : (s.storeSample m b).evq = s.evq := rfl
@[simp] theorem storeSample_ldc (m : Sample) (b : Basis) : (s.storeSample m b).ldc = s.ldc := rfl
@[simp] theorem storeSample_xtc (m : Sample) (b : Basis) : (s.storeSample m b).xtc = s.xtc := rfl
@[simp] theorem storeSample_xhs (m : Sample) (b : Basis) : (s.storeSample m b).xhs = s.xhs := rfl
@[simp] theorem storeSample_dec (m : Sample) (b : Basis) : (s.storeSample m b).dec = s.dec := rfl
@[simp] theorem storeSample_tsq (m : Sample) (b : Basis) : (s.storeSample m b).tsq = s.tsq := rfl
@[simp] theorem storeSample_res (m : Sample) (b : Basis) : (s.storeSample m b).res = s.res := rfl
@[simp] theorem storeSample_trb (m : Sample) (b : Basis) : (s.storeSample m b).trb = s.trb := rfl
@[simp] theorem storeSample_lnk (m : Sample) (b : Basis) : (s.storeSample m b).lnk = s.lnk := rfl
@[simp] theorem storeSample_pending (m : Sample) (b : Basis) : (s.storeSample m b).pending = s.pending := rfl

@[simp] theorem sendReply_dio : (s.sendReply).dio = s.dio := rfl
@[simp] theorem sendReply_evq : (s.sendReply).evq = s.evq := rfl
@[simp] theorem sendReply_ldc : (s.sendReply).ldc = s.ldc := rfl
@[simp] theorem sendReply_xtc : (s.sendReply).xtc = s.xtc := rfl
@[simp] theorem sendReply_smp : (s.sendReply).smp = s.smp := rfl
@[simp] theorem sendReply_xhs : (s.sendReply).xhs = s.xhs := rfl
@[simp] theorem sendReply_dec : (s.sendReply).dec = s.dec := rfl
@[simp] theorem sendReply_tsq : (s.sendReply).tsq = s.tsq := rfl
@[simp] theorem sendReply_res : (s.sendReply).res = s.res := rfl
@[simp] theorem sendReply_trb : (s.sendReply).trb = s.trb := rfl
@[simp] theorem sendReply_pending : (s.sendReply).pending = s.pending := rfl

@[simp] theorem sendRecord_dio (r : TraceRecord) : (s.sendRecord r).dio = s.dio := rfl
@[simp] theorem sendRecord_evq (r : TraceRecord) : (s.sendRecord r).evq = s.evq := rfl
@[simp] theorem sendRecord_ldc (r : TraceRecord) : (s.sendRecord r).ldc = s.ldc := rfl
@[simp] theorem sendRecord_xtc (r : TraceRecord) : (s.sendRecord r).xtc = s.xtc := rfl
@[simp] theorem sendRecord_smp (r : TraceRecord) : (s.sendRecord r).smp = s.smp := rfl
@[simp] theorem sendRecord_xhs (r : TraceRecord) : (s.sendRecord r).xhs = s.xhs := rfl
@[simp] theorem sendRecord_dec (r : TraceRecord) : (s.sendRecord r).dec = s.dec := rfl
@[simp] theorem sendRecord_tsq (r : TraceRecord) : (s.sendRecord r).tsq = s.tsq := rfl
@[simp] theorem sendRecord_res (r : TraceRecord) : (s.sendRecord r).res = s.res := rfl
@[simp] theorem sendRecord_pending (r : TraceRecord) : (s.sendRecord r).pending = s.pending := rfl

@[simp] theorem sendNothing_dio : (s.sendNothing).dio = s.dio := rfl
@[simp] theorem sendNothing_evq : (s.sendNothing).evq = s.evq := rfl
@[simp] theorem sendNothing_ldc : (s.sendNothing).ldc = s.ldc := rfl
@[simp] theorem sendNothing_xtc : (s.sendNothing).xtc = s.xtc := rfl
@[simp] theorem sendNothing_smp : (s.sendNothing).smp = s.smp := rfl
@[simp] theorem sendNothing_xhs : (s.sendNothing).xhs = s.xhs := rfl
@[simp] theorem sendNothing_dec : (s.sendNothing).dec = s.dec := rfl
@[simp] theorem sendNothing_tsq : (s.sendNothing).tsq = s.tsq := rfl
@[simp] theorem sendNothing_res : (s.sendNothing).res = s.res := rfl
@[simp] theorem sendNothing_trb : (s.sendNothing).trb = s.trb := rfl
@[simp] theorem sendNothing_pending : (s.sendNothing).pending = s.pending := rfl

@[simp] theorem setReceiver_dio (r : Receiver) : (s.setReceiver r).dio = s.dio := rfl
@[simp] theorem setReceiver_evq (r : Receiver) : (s.setReceiver r).evq = s.evq := rfl
@[simp] theorem setReceiver_ldc (r : Receiver) : (s.setReceiver r).ldc = s.ldc := rfl
@[simp] theorem setReceiver_xtc (r : Receiver) : (s.setReceiver r).xtc = s.xtc := rfl
@[simp] theorem setReceiver_smp (r : Receiver) : (s.setReceiver r).smp = s.smp := rfl
@[simp] theorem setReceiver_xhs (r : Receiver) : (s.setReceiver r).xhs = s.xhs := rfl
@[simp] theorem setReceiver_dec (r : Receiver) : (s.setReceiver r).dec = s.dec := rfl
@[simp] theorem setReceiver_tsq (r : Receiver) : (s.setReceiver r).tsq = s.tsq := rfl
@[simp] theorem setReceiver_res (r : Receiver) : (s.setReceiver r).res = s.res := rfl
@[simp] theorem setReceiver_trb (r : Receiver) : (s.setReceiver r).trb = s.trb := rfl
@[simp] theorem setReceiver_pending (r : Receiver) : (s.setReceiver r).pending = s.pending := rfl

@[simp] theorem enterBreak_dio : (s.enterBreak).dio = s.dio := rfl
@[simp] theorem enterBreak_evq : (s.enterBreak).evq = s.evq := rfl
@[simp] theorem enterBreak_ldc : (s.enterBreak).ldc = s.ldc := rfl
@[simp] theorem enterBreak_xtc : (s.enterBreak).xtc = s.xtc := rfl
@[simp] theorem enterBreak_smp : (s.enterBreak).smp = s.smp := rfl
@[simp] theorem enterBreak_xhs : (s.enterBreak).xhs = s.xhs := rfl
@[simp] theorem enterBreak_dec : (s.enterBreak).dec = s.dec := rfl
@[simp] theorem enterBreak_tsq : (s.enterBreak).tsq = s.tsq := rfl
@[simp] theorem enterBreak_res : (s.enterBreak).res = s.res := rfl
@[simp] theorem enterBreak_trb : (s.enterBreak).trb = s.trb := rfl
@[simp] theorem enterBreak_pending : (s.enterBreak).pending = s.pending := rfl

@[simp] theorem breakEnd_dio : (s.breakEnd).dio = s.dio := by unfold State.breakEnd; split <;> rfl
@[simp] theorem breakEnd_evq : (s.breakEnd).evq = s.evq := by unfold State.breakEnd; split <;> rfl
@[simp] theorem breakEnd_ldc : (s.breakEnd).ldc = s.ldc := by unfold State.breakEnd; split <;> rfl
@[simp] theorem breakEnd_xtc : (s.breakEnd).xtc = s.xtc := by unfold State.breakEnd; split <;> rfl
@[simp] theorem breakEnd_smp : (s.breakEnd).smp = s.smp := by unfold State.breakEnd; split <;> rfl
@[simp] theorem breakEnd_xhs : (s.breakEnd).xhs = s.xhs := by unfold State.breakEnd; split <;> rfl
@[simp] theorem breakEnd_dec : (s.breakEnd).dec = s.dec := by unfold State.breakEnd; split <;> rfl
@[simp] theorem breakEnd_tsq : (s.breakEnd).tsq = s.tsq := by unfold State.breakEnd; split <;> rfl
@[simp] theorem breakEnd_res : (s.breakEnd).res = s.res := by unfold State.breakEnd; split <;> rfl
@[simp] theorem breakEnd_trb : (s.breakEnd).trb = s.trb := by unfold State.breakEnd; split <;> rfl
@[simp] theorem breakEnd_pending : (s.breakEnd).pending = s.pending := by unfold State.breakEnd; split <;> rfl

@[simp] theorem freeReply_dio : (s.freeReply).dio = s.dio := rfl
@[simp] theorem freeReply_evq : (s.freeReply).evq = s.evq := rfl
@[simp] theorem freeReply_ldc : (s.freeReply).ldc = s.ldc := rfl
@[simp] theorem freeReply_xtc : (s.freeReply).xtc = s.xtc := rfl
@[simp] theorem freeReply_smp : (s.freeReply).smp = s.smp := rfl
@[simp] theorem freeReply_xhs : (s.freeReply).xhs = s.xhs := rfl
@[simp] theorem freeReply_dec : (s.freeReply).dec = s.dec := rfl
@[simp] theorem freeReply_tsq : (s.freeReply).tsq = s.tsq := rfl
@[simp] theorem freeReply_res : (s.freeReply).res = s.res := rfl
@[simp] theorem freeReply_trb : (s.freeReply).trb = s.trb := rfl
@[simp] theorem freeReply_pending : (s.freeReply).pending = s.pending := rfl

end Sys2Proof.Machine
end

