-- ==== Sys2Proof/Laws/Frames.lean ====
section
/-! SUPPORT. The frame of each shared operation: the blocks that it leaves as they were. -/

namespace Sys2Proof.Machine

variable (s : State)

@[simp] theorem setSource_frame (x : StrainSource) (o : Int) (c : SourceCause) :
    (s.setSource x o c).dio = s.dio ∧
    (s.setSource x o c).ldc = s.ldc ∧
    (s.setSource x o c).xtc = s.xtc ∧
    (s.setSource x o c).xhs = s.xhs ∧
    (s.setSource x o c).dec = s.dec ∧
    (s.setSource x o c).tsq = s.tsq ∧
    (s.setSource x o c).res = s.res ∧
    (s.setSource x o c).trb = s.trb ∧
    (s.setSource x o c).lnk = s.lnk ∧
    (s.setSource x o c).pending = s.pending := by
  unfold State.setSource; try dsimp only
  (repeat' split) <;> simp

@[simp] theorem followSet_frame (c : SourceCause) :
    (s.followSet c).dio = s.dio ∧
    (s.followSet c).ldc = s.ldc ∧
    (s.followSet c).xtc = s.xtc ∧
    (s.followSet c).xhs = s.xhs ∧
    (s.followSet c).dec = s.dec ∧
    (s.followSet c).tsq = s.tsq ∧
    (s.followSet c).res = s.res ∧
    (s.followSet c).trb = s.trb ∧
    (s.followSet c).lnk = s.lnk ∧
    (s.followSet c).pending = s.pending := by
  unfold State.followSet; try dsimp only
  simp

@[simp] theorem sourceAtTestEnd_frame :
    (s.sourceAtTestEnd).dio = s.dio ∧
    (s.sourceAtTestEnd).ldc = s.ldc ∧
    (s.sourceAtTestEnd).xtc = s.xtc ∧
    (s.sourceAtTestEnd).xhs = s.xhs ∧
    (s.sourceAtTestEnd).dec = s.dec ∧
    (s.sourceAtTestEnd).tsq = s.tsq ∧
    (s.sourceAtTestEnd).res = s.res ∧
    (s.sourceAtTestEnd).trb = s.trb ∧
    (s.sourceAtTestEnd).lnk = s.lnk ∧
    (s.sourceAtTestEnd).pending = s.pending := by
  unfold State.sourceAtTestEnd; try dsimp only
  simp

@[simp] theorem fallBack_frame (x : StrainSource) :
    (s.fallBack x).dio = s.dio ∧
    (s.fallBack x).ldc = s.ldc ∧
    (s.fallBack x).xtc = s.xtc ∧
    (s.fallBack x).xhs = s.xhs ∧
    (s.fallBack x).dec = s.dec ∧
    (s.fallBack x).tsq = s.tsq ∧
    (s.fallBack x).res = s.res ∧
    (s.fallBack x).trb = s.trb ∧
    (s.fallBack x).lnk = s.lnk ∧
    (s.fallBack x).pending = s.pending := by
  unfold State.fallBack; try dsimp only
  simp

@[simp] theorem handOver_frame :
    (s.handOver).dio = s.dio ∧
    (s.handOver).ldc = s.ldc ∧
    (s.handOver).xtc = s.xtc ∧
    (s.handOver).xhs = s.xhs ∧
    (s.handOver).dec = s.dec ∧
    (s.handOver).tsq = s.tsq ∧
    (s.handOver).res = s.res ∧
    (s.handOver).trb = s.trb ∧
    (s.handOver).lnk = s.lnk ∧
    (s.handOver).pending = s.pending := by
  unfold State.handOver; try dsimp only
  simp

@[simp] theorem sourceAtRelease_frame (b : Bool × Bool) :
    (s.sourceAtRelease b).dio = s.dio ∧
    (s.sourceAtRelease b).ldc = s.ldc ∧
    (s.sourceAtRelease b).xtc = s.xtc ∧
    (s.sourceAtRelease b).xhs = s.xhs ∧
    (s.sourceAtRelease b).dec = s.dec ∧
    (s.sourceAtRelease b).tsq = s.tsq ∧
    (s.sourceAtRelease b).res = s.res ∧
    (s.sourceAtRelease b).trb = s.trb ∧
    (s.sourceAtRelease b).lnk = s.lnk ∧
    (s.sourceAtRelease b).pending = s.pending := by
  unfold State.sourceAtRelease; try dsimp only
  (repeat' split) <;> simp

@[simp] theorem sourceAtArmChange_frame :
    (s.sourceAtArmChange).dio = s.dio ∧
    (s.sourceAtArmChange).ldc = s.ldc ∧
    (s.sourceAtArmChange).xtc = s.xtc ∧
    (s.sourceAtArmChange).xhs = s.xhs ∧
    (s.sourceAtArmChange).dec = s.dec ∧
    (s.sourceAtArmChange).tsq = s.tsq ∧
    (s.sourceAtArmChange).res = s.res ∧
    (s.sourceAtArmChange).trb = s.trb ∧
    (s.sourceAtArmChange).lnk = s.lnk ∧
    (s.sourceAtArmChange).pending = s.pending := by
  unfold State.sourceAtArmChange; try dsimp only
  (repeat' split) <;> simp

@[simp] theorem enterReleasing_frame (w : Arm) :
    (s.enterReleasing w).dio = s.dio ∧
    (s.enterReleasing w).ldc = s.ldc ∧
    (s.enterReleasing w).smp = s.smp ∧
    (s.enterReleasing w).xhs = s.xhs ∧
    (s.enterReleasing w).dec = s.dec ∧
    (s.enterReleasing w).tsq = s.tsq ∧
    (s.enterReleasing w).res = s.res ∧
    (s.enterReleasing w).trb = s.trb ∧
    (s.enterReleasing w).lnk = s.lnk ∧
    (s.enterReleasing w).pending = s.pending := by
  unfold State.enterReleasing; try dsimp only
  (repeat' split) <;> simp

@[simp] theorem releaseArm_frame (b r : Bool) (w : Arm) :
    (s.releaseArm b r w).dio = s.dio ∧
    (s.releaseArm b r w).ldc = s.ldc ∧
    (s.releaseArm b r w).smp = s.smp ∧
    (s.releaseArm b r w).xhs = s.xhs ∧
    (s.releaseArm b r w).dec = s.dec ∧
    (s.releaseArm b r w).tsq = s.tsq ∧
    (s.releaseArm b r w).res = s.res ∧
    (s.releaseArm b r w).trb = s.trb ∧
    (s.releaseArm b r w).lnk = s.lnk ∧
    (s.releaseArm b r w).pending = s.pending := by
  unfold State.releaseArm; try dsimp only
  (repeat' split) <;> simp

@[simp] theorem releaseArms_frame (x y r : Bool) :
    (s.releaseArms x y r).dio = s.dio ∧
    (s.releaseArms x y r).ldc = s.ldc ∧
    (s.releaseArms x y r).smp = s.smp ∧
    (s.releaseArms x y r).xhs = s.xhs ∧
    (s.releaseArms x y r).dec = s.dec ∧
    (s.releaseArms x y r).tsq = s.tsq ∧
    (s.releaseArms x y r).res = s.res ∧
    (s.releaseArms x y r).trb = s.trb ∧
    (s.releaseArms x y r).lnk = s.lnk ∧
    (s.releaseArms x y r).pending = s.pending := by
  unfold State.releaseArms; try dsimp only
  simp

@[simp] theorem releaseStart_frame (x y r : Bool) :
    (s.releaseStart x y r).dio = s.dio ∧
    (s.releaseStart x y r).ldc = s.ldc ∧
    (s.releaseStart x y r).xhs = s.xhs ∧
    (s.releaseStart x y r).dec = s.dec ∧
    (s.releaseStart x y r).tsq = s.tsq ∧
    (s.releaseStart x y r).res = s.res ∧
    (s.releaseStart x y r).trb = s.trb ∧
    (s.releaseStart x y r).lnk = s.lnk ∧
    (s.releaseStart x y r).pending = s.pending := by
  unfold State.releaseStart; try dsimp only
  simp

@[simp] theorem forceHandover_frame :
    (s.forceHandover).dio = s.dio ∧
    (s.forceHandover).ldc = s.ldc ∧
    (s.forceHandover).xhs = s.xhs ∧
    (s.forceHandover).dec = s.dec ∧
    (s.forceHandover).tsq = s.tsq ∧
    (s.forceHandover).res = s.res ∧
    (s.forceHandover).trb = s.trb ∧
    (s.forceHandover).lnk = s.lnk ∧
    (s.forceHandover).pending = s.pending := by
  unfold State.forceHandover; try dsimp only
  simp

@[simp] theorem sourceAtExclusion_frame (b : Bool × Bool) :
    (s.sourceAtExclusion b).dio = s.dio ∧
    (s.sourceAtExclusion b).ldc = s.ldc ∧
    (s.sourceAtExclusion b).xhs = s.xhs ∧
    (s.sourceAtExclusion b).dec = s.dec ∧
    (s.sourceAtExclusion b).tsq = s.tsq ∧
    (s.sourceAtExclusion b).res = s.res ∧
    (s.sourceAtExclusion b).trb = s.trb ∧
    (s.sourceAtExclusion b).lnk = s.lnk ∧
    (s.sourceAtExclusion b).pending = s.pending := by
  unfold State.sourceAtExclusion; try dsimp only
  (repeat' split) <;> simp

@[simp] theorem excludeArm_frame (w : Arm) (c : ExclusionCause) :
    (s.excludeArm w c).dio = s.dio ∧
    (s.excludeArm w c).ldc = s.ldc ∧
    (s.excludeArm w c).xhs = s.xhs ∧
    (s.excludeArm w c).dec = s.dec ∧
    (s.excludeArm w c).tsq = s.tsq ∧
    (s.excludeArm w c).res = s.res ∧
    (s.excludeArm w c).trb = s.trb ∧
    (s.excludeArm w c).lnk = s.lnk ∧
    (s.excludeArm w c).pending = s.pending := by
  unfold State.excludeArm; try dsimp only
  simp

@[simp] theorem enterSeating_frame (w : Arm) :
    (s.enterSeating w).dio = s.dio ∧
    (s.enterSeating w).ldc = s.ldc ∧
    (s.enterSeating w).smp = s.smp ∧
    (s.enterSeating w).xhs = s.xhs ∧
    (s.enterSeating w).dec = s.dec ∧
    (s.enterSeating w).tsq = s.tsq ∧
    (s.enterSeating w).res = s.res ∧
    (s.enterSeating w).trb = s.trb ∧
    (s.enterSeating w).lnk = s.lnk ∧
    (s.enterSeating w).pending = s.pending := by
  unfold State.enterSeating; try dsimp only
  (repeat' split) <;> simp

@[simp] theorem seatArm_frame (n : Bool) (w : Arm) :
    (s.seatArm n w).dio = s.dio ∧
    (s.seatArm n w).ldc = s.ldc ∧
    (s.seatArm n w).smp = s.smp ∧
    (s.seatArm n w).xhs = s.xhs ∧
    (s.seatArm n w).dec = s.dec ∧
    (s.seatArm n w).tsq = s.tsq ∧
    (s.seatArm n w).res = s.res ∧
    (s.seatArm n w).trb = s.trb ∧
    (s.seatArm n w).lnk = s.lnk ∧
    (s.seatArm n w).pending = s.pending := by
  unfold State.seatArm; try dsimp only
  (repeat' split) <;> simp

@[simp] theorem seatChanged_frame (w : Arm) (c : Bool) :
    (s.seatChanged w c).dio = s.dio ∧
    (s.seatChanged w c).ldc = s.ldc ∧
    (s.seatChanged w c).xhs = s.xhs ∧
    (s.seatChanged w c).dec = s.dec ∧
    (s.seatChanged w c).tsq = s.tsq ∧
    (s.seatChanged w c).res = s.res ∧
    (s.seatChanged w c).trb = s.trb ∧
    (s.seatChanged w c).lnk = s.lnk ∧
    (s.seatChanged w c).pending = s.pending := by
  unfold State.seatChanged; try dsimp only
  (repeat' split) <;> simp

@[simp] theorem pullInEnd_frame (w : Arm) :
    (s.pullInEnd w).dio = s.dio ∧
    (s.pullInEnd w).evq = s.evq ∧
    (s.pullInEnd w).ldc = s.ldc ∧
    (s.pullInEnd w).smp = s.smp ∧
    (s.pullInEnd w).xhs = s.xhs ∧
    (s.pullInEnd w).dec = s.dec ∧
    (s.pullInEnd w).tsq = s.tsq ∧
    (s.pullInEnd w).res = s.res ∧
    (s.pullInEnd w).trb = s.trb ∧
    (s.pullInEnd w).lnk = s.lnk ∧
    (s.pullInEnd w).pending = s.pending := by
  unfold State.pullInEnd; try dsimp only
  (repeat' split) <;> simp

@[simp] theorem holdPhaseEnd_frame (w : Arm) :
    (s.holdPhaseEnd w).dio = s.dio ∧
    (s.holdPhaseEnd w).evq = s.evq ∧
    (s.holdPhaseEnd w).ldc = s.ldc ∧
    (s.holdPhaseEnd w).smp = s.smp ∧
    (s.holdPhaseEnd w).xhs = s.xhs ∧
    (s.holdPhaseEnd w).dec = s.dec ∧
    (s.holdPhaseEnd w).tsq = s.tsq ∧
    (s.holdPhaseEnd w).res = s.res ∧
    (s.holdPhaseEnd w).trb = s.trb ∧
    (s.holdPhaseEnd w).lnk = s.lnk ∧
    (s.holdPhaseEnd w).pending = s.pending := by
  unfold State.holdPhaseEnd; try dsimp only
  (repeat' split) <;> simp

@[simp] theorem seatTimeout_frame (w : Arm) :
    (s.seatTimeout w).dio = s.dio ∧
    (s.seatTimeout w).ldc = s.ldc ∧
    (s.seatTimeout w).xhs = s.xhs ∧
    (s.seatTimeout w).dec = s.dec ∧
    (s.seatTimeout w).tsq = s.tsq ∧
    (s.seatTimeout w).res = s.res ∧
    (s.seatTimeout w).trb = s.trb ∧
    (s.seatTimeout w).lnk = s.lnk ∧
    (s.seatTimeout w).pending = s.pending := by
  unfold State.seatTimeout; try dsimp only
  (repeat' split) <;> simp

@[simp] theorem releaseTimeout_frame (w : Arm) :
    (s.releaseTimeout w).dio = s.dio ∧
    (s.releaseTimeout w).ldc = s.ldc ∧
    (s.releaseTimeout w).xhs = s.xhs ∧
    (s.releaseTimeout w).dec = s.dec ∧
    (s.releaseTimeout w).tsq = s.tsq ∧
    (s.releaseTimeout w).res = s.res ∧
    (s.releaseTimeout w).trb = s.trb ∧
    (s.releaseTimeout w).lnk = s.lnk ∧
    (s.releaseTimeout w).pending = s.pending := by
  unfold State.releaseTimeout; try dsimp only
  (repeat' split) <;> simp

@[simp] theorem zeroArm_frame (n : Bool) (w : Arm) :
    (s.zeroArm n w).dio = s.dio ∧
    (s.zeroArm n w).ldc = s.ldc ∧
    (s.zeroArm n w).smp = s.smp ∧
    (s.zeroArm n w).xhs = s.xhs ∧
    (s.zeroArm n w).dec = s.dec ∧
    (s.zeroArm n w).tsq = s.tsq ∧
    (s.zeroArm n w).res = s.res ∧
    (s.zeroArm n w).trb = s.trb ∧
    (s.zeroArm n w).lnk = s.lnk ∧
    (s.zeroArm n w).pending = s.pending := by
  unfold State.zeroArm; try dsimp only
  (repeat' split) <;> simp

@[simp] theorem zeroConversion_frame (w : Arm) (c : Int) :
    (s.zeroConversion w c).dio = s.dio ∧
    (s.zeroConversion w c).ldc = s.ldc ∧
    (s.zeroConversion w c).xhs = s.xhs ∧
    (s.zeroConversion w c).dec = s.dec ∧
    (s.zeroConversion w c).tsq = s.tsq ∧
    (s.zeroConversion w c).res = s.res ∧
    (s.zeroConversion w c).trb = s.trb ∧
    (s.zeroConversion w c).lnk = s.lnk ∧
    (s.zeroConversion w c).pending = s.pending := by
  unfold State.zeroConversion; try dsimp only
  (repeat' split) <;> simp

@[simp] theorem zeroedConversion_frame (w : Arm) (c : Int) :
    (s.zeroedConversion w c).dio = s.dio ∧
    (s.zeroedConversion w c).ldc = s.ldc ∧
    (s.zeroedConversion w c).xhs = s.xhs ∧
    (s.zeroedConversion w c).dec = s.dec ∧
    (s.zeroedConversion w c).tsq = s.tsq ∧
    (s.zeroedConversion w c).res = s.res ∧
    (s.zeroedConversion w c).trb = s.trb ∧
    (s.zeroedConversion w c).lnk = s.lnk ∧
    (s.zeroedConversion w c).pending = s.pending := by
  unfold State.zeroedConversion; try dsimp only
  (repeat' split) <;> simp

@[simp] theorem extConversion_frame (w : Arm) (c : Int) :
    (s.extConversion w c).dio = s.dio ∧
    (s.extConversion w c).ldc = s.ldc ∧
    (s.extConversion w c).xhs = s.xhs ∧
    (s.extConversion w c).dec = s.dec ∧
    (s.extConversion w c).tsq = s.tsq ∧
    (s.extConversion w c).res = s.res ∧
    (s.extConversion w c).trb = s.trb ∧
    (s.extConversion w c).lnk = s.lnk ∧
    (s.extConversion w c).pending = s.pending := by
  unfold State.extConversion; try dsimp only
  (repeat' split) <;> simp

@[simp] theorem putAll_frame (l : List Event) :
    (State.putAll l s).dio = s.dio ∧
    (State.putAll l s).ldc = s.ldc ∧
    (State.putAll l s).xtc = s.xtc ∧
    (State.putAll l s).smp = s.smp ∧
    (State.putAll l s).xhs = s.xhs ∧
    (State.putAll l s).dec = s.dec ∧
    (State.putAll l s).tsq = s.tsq ∧
    (State.putAll l s).res = s.res ∧
    (State.putAll l s).trb = s.trb ∧
    (State.putAll l s).lnk = s.lnk ∧
    (State.putAll l s).pending = s.pending := by
  induction l generalizing s with
  | nil => simp [State.putAll]
  | cons e l ih => simp [State.putAll, ih]

@[simp] theorem resTake_frame (m : Sample) :
    (s.resTake m).dio = s.dio ∧
    (s.resTake m).ldc = s.ldc ∧
    (s.resTake m).xtc = s.xtc ∧
    (s.resTake m).smp = s.smp ∧
    (s.resTake m).xhs = s.xhs ∧
    (s.resTake m).dec = s.dec ∧
    (s.resTake m).tsq = s.tsq ∧
    (s.resTake m).trb = s.trb ∧
    (s.resTake m).lnk = s.lnk ∧
    (s.resTake m).pending = s.pending := by
  unfold State.resTake; try dsimp only
  (repeat' split) <;> simp

@[simp] theorem resBreak_frame (f : Option Word) :
    (s.resBreak f).dio = s.dio ∧
    (s.resBreak f).evq = s.evq ∧
    (s.resBreak f).ldc = s.ldc ∧
    (s.resBreak f).xtc = s.xtc ∧
    (s.resBreak f).smp = s.smp ∧
    (s.resBreak f).xhs = s.xhs ∧
    (s.resBreak f).dec = s.dec ∧
    (s.resBreak f).tsq = s.tsq ∧
    (s.resBreak f).trb = s.trb ∧
    (s.resBreak f).lnk = s.lnk ∧
    (s.resBreak f).pending = s.pending := by
  unfold State.resBreak; try dsimp only
  (repeat' split) <;> simp

@[simp] theorem resEnd_frame (r : EndReason) :
    (s.resEnd r).dio = s.dio ∧
    (s.resEnd r).ldc = s.ldc ∧
    (s.resEnd r).xtc = s.xtc ∧
    (s.resEnd r).smp = s.smp ∧
    (s.resEnd r).xhs = s.xhs ∧
    (s.resEnd r).dec = s.dec ∧
    (s.resEnd r).tsq = s.tsq ∧
    (s.resEnd r).trb = s.trb ∧
    (s.resEnd r).lnk = s.lnk ∧
    (s.resEnd r).pending = s.pending := by
  unfold State.resEnd; try dsimp only
  (repeat' split) <;> simp

@[simp] theorem applyPending_frame (w : AppliedAt) :
    (s.applyPending w).dio = s.dio ∧
    (s.applyPending w).ldc = s.ldc ∧
    (s.applyPending w).xtc = s.xtc ∧
    (s.applyPending w).smp = s.smp ∧
    (s.applyPending w).xhs = s.xhs ∧
    (s.applyPending w).dec = s.dec ∧
    (s.applyPending w).res = s.res ∧
    (s.applyPending w).trb = s.trb ∧
    (s.applyPending w).lnk = s.lnk ∧
    (s.applyPending w).pending = s.pending := by
  unfold State.applyPending; try dsimp only
  (repeat' split) <;> simp

@[simp] theorem settlePending_frame (r : EndReason) :
    (s.settlePending r).dio = s.dio ∧
    (s.settlePending r).ldc = s.ldc ∧
    (s.settlePending r).xtc = s.xtc ∧
    (s.settlePending r).smp = s.smp ∧
    (s.settlePending r).xhs = s.xhs ∧
    (s.settlePending r).dec = s.dec ∧
    (s.settlePending r).res = s.res ∧
    (s.settlePending r).trb = s.trb ∧
    (s.settlePending r).lnk = s.lnk ∧
    (s.settlePending r).pending = s.pending := by
  unfold State.settlePending; try dsimp only
  (repeat' split) <;> simp

@[simp] theorem enterEnded_frame (r : EndReason) :
    (s.enterEnded r).dio = s.dio ∧
    (s.enterEnded r).ldc = s.ldc ∧
    (s.enterEnded r).xtc = s.xtc ∧
    (s.enterEnded r).xhs = s.xhs ∧
    (s.enterEnded r).dec = s.dec ∧
    (s.enterEnded r).trb = s.trb ∧
    (s.enterEnded r).lnk = s.lnk ∧
    (s.enterEnded r).pending = s.pending := by
  unfold State.enterEnded; try dsimp only
  simp

@[simp] theorem returnEnded_frame :
    (s.returnEnded).dio = s.dio ∧
    (s.returnEnded).ldc = s.ldc ∧
    (s.returnEnded).xtc = s.xtc ∧
    (s.returnEnded).xhs = s.xhs ∧
    (s.returnEnded).dec = s.dec ∧
    (s.returnEnded).trb = s.trb ∧
    (s.returnEnded).lnk = s.lnk ∧
    (s.returnEnded).pending = s.pending := by
  unfold State.returnEnded; try dsimp only
  (repeat' split) <;> simp

@[simp] theorem softLimitHold_frame :
    (s.softLimitHold).dio = s.dio ∧
    (s.softLimitHold).ldc = s.ldc ∧
    (s.softLimitHold).xtc = s.xtc ∧
    (s.softLimitHold).smp = s.smp ∧
    (s.softLimitHold).xhs = s.xhs ∧
    (s.softLimitHold).dec = s.dec ∧
    (s.softLimitHold).res = s.res ∧
    (s.softLimitHold).trb = s.trb ∧
    (s.softLimitHold).lnk = s.lnk ∧
    (s.softLimitHold).pending = s.pending := by
  unfold State.softLimitHold; try dsimp only
  (repeat' split) <;> simp

@[simp] theorem servoDisable_frame :
    (s.servoDisable).dio = s.dio ∧
    (s.servoDisable).ldc = s.ldc ∧
    (s.servoDisable).xtc = s.xtc ∧
    (s.servoDisable).smp = s.smp ∧
    (s.servoDisable).dec = s.dec ∧
    (s.servoDisable).tsq = s.tsq ∧
    (s.servoDisable).res = s.res ∧
    (s.servoDisable).trb = s.trb ∧
    (s.servoDisable).lnk = s.lnk ∧
    (s.servoDisable).pending = s.pending := by
  unfold State.servoDisable; try dsimp only
  (repeat' split) <;> simp

@[simp] theorem testChainOpened_frame (c : OpenCause) :
    (s.testChainOpened c).dio = s.dio ∧
    (s.testChainOpened c).ldc = s.ldc ∧
    (s.testChainOpened c).xtc = s.xtc ∧
    (s.testChainOpened c).xhs = s.xhs ∧
    (s.testChainOpened c).dec = s.dec ∧
    (s.testChainOpened c).trb = s.trb ∧
    (s.testChainOpened c).lnk = s.lnk ∧
    (s.testChainOpened c).pending = s.pending := by
  unfold State.testChainOpened; try dsimp only
  (repeat' split) <;> simp

@[simp] theorem openChain_frame (c : OpenCause) :
    (s.openChain c).dio = s.dio ∧
    (s.openChain c).ldc = s.ldc ∧
    (s.openChain c).xtc = s.xtc ∧
    (s.openChain c).trb = s.trb ∧
    (s.openChain c).lnk = s.lnk ∧
    (s.openChain c).pending = s.pending := by
  unfold State.openChain; try dsimp only
  simp

@[simp] theorem trip_frame (c : TripCause) :
    (s.trip c).dio = s.dio ∧
    (s.trip c).ldc = s.ldc ∧
    (s.trip c).xtc = s.xtc ∧
    (s.trip c).trb = s.trb ∧
    (s.trip c).lnk = s.lnk ∧
    (s.trip c).pending = s.pending := by
  unfold State.trip; try dsimp only
  (repeat' split) <;> simp

@[simp] theorem reportOverload_frame :
    (s.reportOverload).dio = s.dio ∧
    (s.reportOverload).ldc = s.ldc ∧
    (s.reportOverload).xtc = s.xtc ∧
    (s.reportOverload).trb = s.trb ∧
    (s.reportOverload).lnk = s.lnk ∧
    (s.reportOverload).pending = s.pending := by
  unfold State.reportOverload; try dsimp only
  simp

@[simp] theorem closeChain_frame :
    (s.closeChain).dio = s.dio ∧
    (s.closeChain).ldc = s.ldc ∧
    (s.closeChain).xtc = s.xtc ∧
    (s.closeChain).smp = s.smp ∧
    (s.closeChain).tsq = s.tsq ∧
    (s.closeChain).res = s.res ∧
    (s.closeChain).trb = s.trb ∧
    (s.closeChain).lnk = s.lnk ∧
    (s.closeChain).pending = s.pending := by
  unfold State.closeChain; try dsimp only
  simp

@[simp] theorem guardOpened_frame :
    (s.guardOpened).dio = s.dio ∧
    (s.guardOpened).ldc = s.ldc ∧
    (s.guardOpened).xtc = s.xtc ∧
    (s.guardOpened).trb = s.trb ∧
    (s.guardOpened).lnk = s.lnk ∧
    (s.guardOpened).pending = s.pending := by
  unfold State.guardOpened; try dsimp only
  (repeat' split) <;> simp

@[simp] theorem guardAtStart_frame :
    (s.guardAtStart).dio = s.dio ∧
    (s.guardAtStart).ldc = s.ldc ∧
    (s.guardAtStart).xtc = s.xtc ∧
    (s.guardAtStart).trb = s.trb ∧
    (s.guardAtStart).lnk = s.lnk ∧
    (s.guardAtStart).pending = s.pending := by
  unfold State.guardAtStart; try dsimp only
  (repeat' split) <;> simp

@[simp] theorem gripOpened_frame :
    (s.gripOpened).dio = s.dio ∧
    (s.gripOpened).ldc = s.ldc ∧
    (s.gripOpened).xtc = s.xtc ∧
    (s.gripOpened).trb = s.trb ∧
    (s.gripOpened).lnk = s.lnk ∧
    (s.gripOpened).pending = s.pending := by
  unfold State.gripOpened; try dsimp only
  (repeat' split) <;> simp

@[simp] theorem consume_frame (i : Input) (b : Bool) :
    (s.consume i b).dio = s.dio ∧
    (s.consume i b).ldc = s.ldc ∧
    (s.consume i b).trb = s.trb ∧
    (s.consume i b).lnk = s.lnk ∧
    (s.consume i b).pending = s.pending := by
  unfold State.consume; try dsimp only
  (repeat' split) <;> simp

@[simp] theorem clearTrips_frame :
    (s.clearTrips).dio = s.dio ∧
    (s.clearTrips).ldc = s.ldc ∧
    (s.clearTrips).xtc = s.xtc ∧
    (s.clearTrips).smp = s.smp ∧
    (s.clearTrips).tsq = s.tsq ∧
    (s.clearTrips).res = s.res ∧
    (s.clearTrips).trb = s.trb ∧
    (s.clearTrips).lnk = s.lnk ∧
    (s.clearTrips).pending = s.pending := by
  unfold State.clearTrips; try dsimp only
  (repeat' split) <;> simp

@[simp] theorem evaluateStart_frame :
    (s.evaluateStart).dio = s.dio ∧
    (s.evaluateStart).ldc = s.ldc ∧
    (s.evaluateStart).xtc = s.xtc ∧
    (s.evaluateStart).trb = s.trb ∧
    (s.evaluateStart).lnk = s.lnk ∧
    (s.evaluateStart).pending = s.pending := by
  unfold State.evaluateStart; try dsimp only
  (repeat' split) <;> simp

@[simp] theorem moveArrived_frame :
    (s.moveArrived).dio = s.dio ∧
    (s.moveArrived).ldc = s.ldc ∧
    (s.moveArrived).xtc = s.xtc ∧
    (s.moveArrived).dec = s.dec ∧
    (s.moveArrived).trb = s.trb ∧
    (s.moveArrived).lnk = s.lnk ∧
    (s.moveArrived).pending = s.pending := by
  unfold State.moveArrived; try dsimp only
  (repeat' split) <;> simp

@[simp] theorem restDemand_frame :
    (s.restDemand).dio = s.dio ∧
    (s.restDemand).evq = s.evq ∧
    (s.restDemand).ldc = s.ldc ∧
    (s.restDemand).xtc = s.xtc ∧
    (s.restDemand).smp = s.smp ∧
    (s.restDemand).dec = s.dec ∧
    (s.restDemand).tsq = s.tsq ∧
    (s.restDemand).res = s.res ∧
    (s.restDemand).trb = s.trb ∧
    (s.restDemand).lnk = s.lnk ∧
    (s.restDemand).pending = s.pending := by
  unfold State.restDemand; try dsimp only
  (repeat' split) <;> simp

@[simp] theorem softLimitEffect_frame (u : Bool) :
    (s.softLimitEffect u).dio = s.dio ∧
    (s.softLimitEffect u).ldc = s.ldc ∧
    (s.softLimitEffect u).xtc = s.xtc ∧
    (s.softLimitEffect u).dec = s.dec ∧
    (s.softLimitEffect u).trb = s.trb ∧
    (s.softLimitEffect u).lnk = s.lnk ∧
    (s.softLimitEffect u).pending = s.pending := by
  unfold State.softLimitEffect; try dsimp only
  (repeat' split) <;> simp

@[simp] theorem checkTracking_frame :
    (s.checkTracking).dio = s.dio ∧
    (s.checkTracking).ldc = s.ldc ∧
    (s.checkTracking).xtc = s.xtc ∧
    (s.checkTracking).trb = s.trb ∧
    (s.checkTracking).lnk = s.lnk ∧
    (s.checkTracking).pending = s.pending := by
  unfold State.checkTracking; try dsimp only
  (repeat' split) <;> simp

@[simp] theorem endMonitor_frame (p : Bool) :
    (s.endMonitor p).dio = s.dio ∧
    (s.endMonitor p).ldc = s.ldc ∧
    (s.endMonitor p).xtc = s.xtc ∧
    (s.endMonitor p).smp = s.smp ∧
    (s.endMonitor p).dec = s.dec ∧
    (s.endMonitor p).tsq = s.tsq ∧
    (s.endMonitor p).res = s.res ∧
    (s.endMonitor p).trb = s.trb ∧
    (s.endMonitor p).lnk = s.lnk ∧
    (s.endMonitor p).pending = s.pending := by
  unfold State.endMonitor; try dsimp only
  simp

@[simp] theorem monitorExpiry_frame :
    (s.monitorExpiry).dio = s.dio ∧
    (s.monitorExpiry).ldc = s.ldc ∧
    (s.monitorExpiry).xtc = s.xtc ∧
    (s.monitorExpiry).smp = s.smp ∧
    (s.monitorExpiry).dec = s.dec ∧
    (s.monitorExpiry).tsq = s.tsq ∧
    (s.monitorExpiry).res = s.res ∧
    (s.monitorExpiry).trb = s.trb ∧
    (s.monitorExpiry).lnk = s.lnk ∧
    (s.monitorExpiry).pending = s.pending := by
  unfold State.monitorExpiry; try dsimp only
  (repeat' split) <;> simp

@[simp] theorem disabledExpiry_frame :
    (s.disabledExpiry).dio = s.dio ∧
    (s.disabledExpiry).ldc = s.ldc ∧
    (s.disabledExpiry).xtc = s.xtc ∧
    (s.disabledExpiry).smp = s.smp ∧
    (s.disabledExpiry).dec = s.dec ∧
    (s.disabledExpiry).tsq = s.tsq ∧
    (s.disabledExpiry).res = s.res ∧
    (s.disabledExpiry).trb = s.trb ∧
    (s.disabledExpiry).lnk = s.lnk ∧
    (s.disabledExpiry).pending = s.pending := by
  unfold State.disabledExpiry; try dsimp only
  simp

@[simp] theorem jogLapse_frame :
    (s.jogLapse).dio = s.dio ∧
    (s.jogLapse).ldc = s.ldc ∧
    (s.jogLapse).xtc = s.xtc ∧
    (s.jogLapse).smp = s.smp ∧
    (s.jogLapse).dec = s.dec ∧
    (s.jogLapse).tsq = s.tsq ∧
    (s.jogLapse).res = s.res ∧
    (s.jogLapse).trb = s.trb ∧
    (s.jogLapse).lnk = s.lnk ∧
    (s.jogLapse).pending = s.pending := by
  unfold State.jogLapse; try dsimp only
  (repeat' split) <;> simp

@[simp] theorem encoderSample_frame (x y : Bool) :
    (s.encoderSample x y).dio = s.dio ∧
    (s.encoderSample x y).ldc = s.ldc ∧
    (s.encoderSample x y).xtc = s.xtc ∧
    (s.encoderSample x y).trb = s.trb ∧
    (s.encoderSample x y).lnk = s.lnk ∧
    (s.encoderSample x y).pending = s.pending := by
  unfold State.encoderSample; try dsimp only
  (repeat' split) <;> simp

@[simp] theorem abandonTare_frame :
    (s.abandonTare).dio = s.dio ∧
    (s.abandonTare).xtc = s.xtc ∧
    (s.abandonTare).smp = s.smp ∧
    (s.abandonTare).xhs = s.xhs ∧
    (s.abandonTare).dec = s.dec ∧
    (s.abandonTare).tsq = s.tsq ∧
    (s.abandonTare).res = s.res ∧
    (s.abandonTare).trb = s.trb ∧
    (s.abandonTare).lnk = s.lnk ∧
    (s.abandonTare).pending = s.pending := by
  unfold State.abandonTare; try dsimp only
  (repeat' split) <;> simp

@[simp] theorem abandonShunt_frame (r : LoadRange) :
    (s.abandonShunt r).dio = s.dio ∧
    (s.abandonShunt r).xtc = s.xtc ∧
    (s.abandonShunt r).smp = s.smp ∧
    (s.abandonShunt r).xhs = s.xhs ∧
    (s.abandonShunt r).dec = s.dec ∧
    (s.abandonShunt r).tsq = s.tsq ∧
    (s.abandonShunt r).res = s.res ∧
    (s.abandonShunt r).trb = s.trb ∧
    (s.abandonShunt r).lnk = s.lnk ∧
    (s.abandonShunt r).pending = s.pending := by
  unfold State.abandonShunt; try dsimp only
  (repeat' split) <;> simp

@[simp] theorem switchRange_frame (r : LoadRange) :
    (s.switchRange r).dio = s.dio ∧
    (s.switchRange r).xtc = s.xtc ∧
    (s.switchRange r).smp = s.smp ∧
    (s.switchRange r).xhs = s.xhs ∧
    (s.switchRange r).dec = s.dec ∧
    (s.switchRange r).tsq = s.tsq ∧
    (s.switchRange r).res = s.res ∧
    (s.switchRange r).trb = s.trb ∧
    (s.switchRange r).lnk = s.lnk ∧
    (s.switchRange r).pending = s.pending := by
  unfold State.switchRange; try dsimp only
  simp

@[simp] theorem testOverload_frame (k : LoadClass) (c : Int) (r : LoadResult) :
    (s.testOverload k c r).dio = s.dio ∧
    (s.testOverload k c r).ldc = s.ldc ∧
    (s.testOverload k c r).xtc = s.xtc ∧
    (s.testOverload k c r).trb = s.trb ∧
    (s.testOverload k c r).lnk = s.lnk ∧
    (s.testOverload k c r).pending = s.pending := by
  unfold State.testOverload; try dsimp only
  (repeat' split) <;> simp

@[simp] theorem conversionSwitch_frame (k : LoadClass) (c : Int) :
    (s.conversionSwitch k c).dio = s.dio ∧
    (s.conversionSwitch k c).xtc = s.xtc ∧
    (s.conversionSwitch k c).smp = s.smp ∧
    (s.conversionSwitch k c).xhs = s.xhs ∧
    (s.conversionSwitch k c).dec = s.dec ∧
    (s.conversionSwitch k c).tsq = s.tsq ∧
    (s.conversionSwitch k c).res = s.res ∧
    (s.conversionSwitch k c).trb = s.trb ∧
    (s.conversionSwitch k c).lnk = s.lnk ∧
    (s.conversionSwitch k c).pending = s.pending := by
  unfold State.conversionSwitch; try dsimp only
  (repeat' split) <;> simp

@[simp] theorem countDown_frame (k : LoadClass) (c : Int) (x y : Bool) :
    (s.countDown k c x y).dio = s.dio ∧
    (s.countDown k c x y).xtc = s.xtc ∧
    (s.countDown k c x y).smp = s.smp ∧
    (s.countDown k c x y).xhs = s.xhs ∧
    (s.countDown k c x y).dec = s.dec ∧
    (s.countDown k c x y).tsq = s.tsq ∧
    (s.countDown k c x y).res = s.res ∧
    (s.countDown k c x y).trb = s.trb ∧
    (s.countDown k c x y).lnk = s.lnk ∧
    (s.countDown k c x y).pending = s.pending := by
  unfold State.countDown; try dsimp only
  (repeat' split) <;> simp

@[simp] theorem advanceTare_frame (k : LoadClass) (c : Int) :
    (s.advanceTare k c).dio = s.dio ∧
    (s.advanceTare k c).xtc = s.xtc ∧
    (s.advanceTare k c).smp = s.smp ∧
    (s.advanceTare k c).xhs = s.xhs ∧
    (s.advanceTare k c).dec = s.dec ∧
    (s.advanceTare k c).tsq = s.tsq ∧
    (s.advanceTare k c).res = s.res ∧
    (s.advanceTare k c).trb = s.trb ∧
    (s.advanceTare k c).lnk = s.lnk ∧
    (s.advanceTare k c).pending = s.pending := by
  unfold State.advanceTare; try dsimp only
  (repeat' split) <;> simp

@[simp] theorem finishShunt_frame (k : ShuntProgress) :
    (s.finishShunt k).dio = s.dio ∧
    (s.finishShunt k).xtc = s.xtc ∧
    (s.finishShunt k).smp = s.smp ∧
    (s.finishShunt k).xhs = s.xhs ∧
    (s.finishShunt k).dec = s.dec ∧
    (s.finishShunt k).tsq = s.tsq ∧
    (s.finishShunt k).res = s.res ∧
    (s.finishShunt k).trb = s.trb ∧
    (s.finishShunt k).lnk = s.lnk ∧
    (s.finishShunt k).pending = s.pending := by
  unfold State.finishShunt; try dsimp only
  (repeat' split) <;> simp

@[simp] theorem advanceShunt_frame (k : LoadClass) (c : Int) :
    (s.advanceShunt k c).dio = s.dio ∧
    (s.advanceShunt k c).xtc = s.xtc ∧
    (s.advanceShunt k c).smp = s.smp ∧
    (s.advanceShunt k c).xhs = s.xhs ∧
    (s.advanceShunt k c).dec = s.dec ∧
    (s.advanceShunt k c).tsq = s.tsq ∧
    (s.advanceShunt k c).res = s.res ∧
    (s.advanceShunt k c).trb = s.trb ∧
    (s.advanceShunt k c).lnk = s.lnk ∧
    (s.advanceShunt k c).pending = s.pending := by
  unfold State.advanceShunt; try dsimp only
  (repeat' split) <;> simp

@[simp] theorem advanceProgress_frame (k : LoadClass) (c : Int) :
    (s.advanceProgress k c).dio = s.dio ∧
    (s.advanceProgress k c).xtc = s.xtc ∧
    (s.advanceProgress k c).smp = s.smp ∧
    (s.advanceProgress k c).xhs = s.xhs ∧
    (s.advanceProgress k c).dec = s.dec ∧
    (s.advanceProgress k c).tsq = s.tsq ∧
    (s.advanceProgress k c).res = s.res ∧
    (s.advanceProgress k c).trb = s.trb ∧
    (s.advanceProgress k c).lnk = s.lnk ∧
    (s.advanceProgress k c).pending = s.pending := by
  unfold State.advanceProgress; try dsimp only
  (repeat' split) <;> simp

@[simp] theorem convertLoad_frame (c : Int) :
    ((s.convertLoad c).1).dio = s.dio ∧
    ((s.convertLoad c).1).xtc = s.xtc ∧
    ((s.convertLoad c).1).trb = s.trb ∧
    ((s.convertLoad c).1).lnk = s.lnk ∧
    ((s.convertLoad c).1).pending = s.pending := by
  unfold State.convertLoad; try dsimp only
  simp

@[simp] theorem haltLoad_frame :
    (s.haltLoad).dio = s.dio ∧
    (s.haltLoad).xtc = s.xtc ∧
    (s.haltLoad).smp = s.smp ∧
    (s.haltLoad).xhs = s.xhs ∧
    (s.haltLoad).dec = s.dec ∧
    (s.haltLoad).tsq = s.tsq ∧
    (s.haltLoad).res = s.res ∧
    (s.haltLoad).trb = s.trb ∧
    (s.haltLoad).lnk = s.lnk ∧
    (s.haltLoad).pending = s.pending := by
  unfold State.haltLoad; try dsimp only
  simp

@[simp] theorem breakRelease_frame :
    (s.breakRelease).dio = s.dio ∧
    (s.breakRelease).ldc = s.ldc ∧
    (s.breakRelease).xhs = s.xhs ∧
    (s.breakRelease).dec = s.dec ∧
    (s.breakRelease).tsq = s.tsq ∧
    (s.breakRelease).res = s.res ∧
    (s.breakRelease).trb = s.trb ∧
    (s.breakRelease).lnk = s.lnk ∧
    (s.breakRelease).pending = s.pending := by
  unfold State.breakRelease; try dsimp only
  (repeat' split) <;> simp

@[simp] theorem enterReturning_frame (v : Int) :
    (s.enterReturning v).dio = s.dio ∧
    (s.enterReturning v).ldc = s.ldc ∧
    (s.enterReturning v).xtc = s.xtc ∧
    (s.enterReturning v).smp = s.smp ∧
    (s.enterReturning v).dec = s.dec ∧
    (s.enterReturning v).res = s.res ∧
    (s.enterReturning v).trb = s.trb ∧
    (s.enterReturning v).lnk = s.lnk ∧
    (s.enterReturning v).pending = s.pending := by
  unfold State.enterReturning; try dsimp only
  simp

@[simp] theorem afterBreak_frame :
    (s.afterBreak).dio = s.dio ∧
    (s.afterBreak).ldc = s.ldc ∧
    (s.afterBreak).xtc = s.xtc ∧
    (s.afterBreak).dec = s.dec ∧
    (s.afterBreak).trb = s.trb ∧
    (s.afterBreak).lnk = s.lnk ∧
    (s.afterBreak).pending = s.pending := by
  unfold State.afterBreak; try dsimp only
  (repeat' split) <;> simp

@[simp] theorem breakDetected_frame :
    (s.breakDetected).dio = s.dio ∧
    (s.breakDetected).ldc = s.ldc ∧
    (s.breakDetected).dec = s.dec ∧
    (s.breakDetected).trb = s.trb ∧
    (s.breakDetected).lnk = s.lnk ∧
    (s.breakDetected).pending = s.pending := by
  unfold State.breakDetected; try dsimp only
  simp

@[simp] theorem stepRelease_frame :
    (s.stepRelease).dio = s.dio ∧
    (s.stepRelease).ldc = s.ldc ∧
    (s.stepRelease).xhs = s.xhs ∧
    (s.stepRelease).dec = s.dec ∧
    (s.stepRelease).tsq = s.tsq ∧
    (s.stepRelease).res = s.res ∧
    (s.stepRelease).trb = s.trb ∧
    (s.stepRelease).lnk = s.lnk ∧
    (s.stepRelease).pending = s.pending := by
  unfold State.stepRelease; try dsimp only
  (repeat' split) <;> simp

@[simp] theorem nextStep_frame :
    (s.nextStep).dio = s.dio ∧
    (s.nextStep).ldc = s.ldc ∧
    (s.nextStep).xtc = s.xtc ∧
    (s.nextStep).dec = s.dec ∧
    (s.nextStep).trb = s.trb ∧
    (s.nextStep).lnk = s.lnk ∧
    (s.nextStep).pending = s.pending := by
  unfold State.nextStep; try dsimp only
  (repeat' split) <;> simp

@[simp] theorem stepBoundary_frame :
    (s.stepBoundary).dio = s.dio ∧
    (s.stepBoundary).ldc = s.ldc ∧
    (s.stepBoundary).dec = s.dec ∧
    (s.stepBoundary).trb = s.trb ∧
    (s.stepBoundary).lnk = s.lnk ∧
    (s.stepBoundary).pending = s.pending := by
  unfold State.stepBoundary; try dsimp only
  simp

@[simp] theorem notePrevious_frame (m : Sample) :
    (s.notePrevious m).dio = s.dio ∧
    (s.notePrevious m).evq = s.evq ∧
    (s.notePrevious m).ldc = s.ldc ∧
    (s.notePrevious m).xtc = s.xtc ∧
    (s.notePrevious m).smp = s.smp ∧
    (s.notePrevious m).xhs = s.xhs ∧
    (s.notePrevious m).dec = s.dec ∧
    (s.notePrevious m).res = s.res ∧
    (s.notePrevious m).trb = s.trb ∧
    (s.notePrevious m).lnk = s.lnk ∧
    (s.notePrevious m).pending = s.pending := by
  unfold State.notePrevious; try dsimp only
  (repeat' split) <;> simp

@[simp] theorem runningTake_frame (m : Sample) (b : Bool) :
    (s.runningTake m b).dio = s.dio ∧
    (s.runningTake m b).ldc = s.ldc ∧
    (s.runningTake m b).dec = s.dec ∧
    (s.runningTake m b).trb = s.trb ∧
    (s.runningTake m b).lnk = s.lnk ∧
    (s.runningTake m b).pending = s.pending := by
  unfold State.runningTake; try dsimp only
  (repeat' split) <;> simp

@[simp] theorem holdingTake_frame (m : Sample) :
    (s.holdingTake m).dio = s.dio ∧
    (s.holdingTake m).ldc = s.ldc ∧
    (s.holdingTake m).dec = s.dec ∧
    (s.holdingTake m).trb = s.trb ∧
    (s.holdingTake m).lnk = s.lnk ∧
    (s.holdingTake m).pending = s.pending := by
  unfold State.holdingTake; try dsimp only
  (repeat' split) <;> simp

@[simp] theorem testTake_frame (m : Sample) (b : Bool) :
    (s.testTake m b).dio = s.dio ∧
    (s.testTake m b).ldc = s.ldc ∧
    (s.testTake m b).dec = s.dec ∧
    (s.testTake m b).trb = s.trb ∧
    (s.testTake m b).lnk = s.lnk ∧
    (s.testTake m b).pending = s.pending := by
  unfold State.testTake; try dsimp only
  (repeat' split) <;> simp

@[simp] theorem doubleFactor_frame :
    (s.doubleFactor).dio = s.dio ∧
    (s.doubleFactor).ldc = s.ldc ∧
    (s.doubleFactor).xtc = s.xtc ∧
    (s.doubleFactor).smp = s.smp ∧
    (s.doubleFactor).xhs = s.xhs ∧
    (s.doubleFactor).dec = s.dec ∧
    (s.doubleFactor).tsq = s.tsq ∧
    (s.doubleFactor).res = s.res ∧
    (s.doubleFactor).lnk = s.lnk ∧
    (s.doubleFactor).pending = s.pending := by
  unfold State.doubleFactor; try dsimp only
  (repeat' split) <;> simp

@[simp] theorem storeRecord_frame (m : Sample) :
    (s.storeRecord m).dio = s.dio ∧
    (s.storeRecord m).ldc = s.ldc ∧
    (s.storeRecord m).xtc = s.xtc ∧
    (s.storeRecord m).smp = s.smp ∧
    (s.storeRecord m).xhs = s.xhs ∧
    (s.storeRecord m).dec = s.dec ∧
    (s.storeRecord m).tsq = s.tsq ∧
    (s.storeRecord m).res = s.res ∧
    (s.storeRecord m).lnk = s.lnk ∧
    (s.storeRecord m).pending = s.pending := by
  unfold State.storeRecord; try dsimp only
  (repeat' split) <;> simp

@[simp] theorem noteIndex_frame (m : Sample) :
    (s.noteIndex m).dio = s.dio ∧
    (s.noteIndex m).evq = s.evq ∧
    (s.noteIndex m).ldc = s.ldc ∧
    (s.noteIndex m).xtc = s.xtc ∧
    (s.noteIndex m).smp = s.smp ∧
    (s.noteIndex m).xhs = s.xhs ∧
    (s.noteIndex m).dec = s.dec ∧
    (s.noteIndex m).tsq = s.tsq ∧
    (s.noteIndex m).res = s.res ∧
    (s.noteIndex m).lnk = s.lnk ∧
    (s.noteIndex m).pending = s.pending := by
  unfold State.noteIndex; try dsimp only
  (repeat' split) <;> simp

@[simp] theorem traceTake_frame (m : Sample) :
    (s.traceTake m).dio = s.dio ∧
    (s.traceTake m).ldc = s.ldc ∧
    (s.traceTake m).xtc = s.xtc ∧
    (s.traceTake m).smp = s.smp ∧
    (s.traceTake m).xhs = s.xhs ∧
    (s.traceTake m).dec = s.dec ∧
    (s.traceTake m).tsq = s.tsq ∧
    (s.traceTake m).res = s.res ∧
    (s.traceTake m).lnk = s.lnk ∧
    (s.traceTake m).pending = s.pending := by
  unfold State.traceTake; try dsimp only
  (repeat' split) <;> simp

@[simp] theorem halveFactor_frame :
    (s.halveFactor).dio = s.dio ∧
    (s.halveFactor).ldc = s.ldc ∧
    (s.halveFactor).xtc = s.xtc ∧
    (s.halveFactor).smp = s.smp ∧
    (s.halveFactor).xhs = s.xhs ∧
    (s.halveFactor).dec = s.dec ∧
    (s.halveFactor).tsq = s.tsq ∧
    (s.halveFactor).res = s.res ∧
    (s.halveFactor).lnk = s.lnk ∧
    (s.halveFactor).pending = s.pending := by
  unfold State.halveFactor; try dsimp only
  (repeat' split) <;> simp

@[simp] theorem traceSent_frame :
    (s.traceSent).dio = s.dio ∧
    (s.traceSent).ldc = s.ldc ∧
    (s.traceSent).xtc = s.xtc ∧
    (s.traceSent).smp = s.smp ∧
    (s.traceSent).xhs = s.xhs ∧
    (s.traceSent).dec = s.dec ∧
    (s.traceSent).tsq = s.tsq ∧
    (s.traceSent).res = s.res ∧
    (s.traceSent).lnk = s.lnk ∧
    (s.traceSent).pending = s.pending := by
  unfold State.traceSent; try dsimp only
  (repeat' split) <;> simp

@[simp] theorem deliver_frame (m : Sample) :
    (s.deliver m).dio = s.dio ∧
    (s.deliver m).ldc = s.ldc ∧
    (s.deliver m).dec = s.dec ∧
    (s.deliver m).lnk = s.lnk ∧
    (s.deliver m).pending = s.pending := by
  unfold State.deliver; try dsimp only
  (repeat' split) <;> simp

@[simp] theorem sampleLoad_frame (r : LoadResult) :
    (s.sampleLoad r).dio = s.dio ∧
    (s.sampleLoad r).ldc = s.ldc ∧
    (s.sampleLoad r).dec = s.dec ∧
    (s.sampleLoad r).lnk = s.lnk ∧
    (s.sampleLoad r).pending = s.pending := by
  unfold State.sampleLoad; try dsimp only
  simp

@[simp] theorem loadConversion_frame (c : Int) :
    (s.loadConversion c).dio = s.dio ∧
    (s.loadConversion c).lnk = s.lnk ∧
    (s.loadConversion c).pending = s.pending := by
  unfold State.loadConversion; try dsimp only
  simp

@[simp] theorem deliverInput_frame (i : Input) :
    (s.deliverInput i).dio = s.dio ∧
    (s.deliverInput i).ldc = s.ldc ∧
    (s.deliverInput i).trb = s.trb ∧
    (s.deliverInput i).lnk = s.lnk ∧
    (s.deliverInput i).pending = s.pending := by
  unfold State.deliverInput; try dsimp only
  (repeat' split) <;> simp

@[simp] theorem takeLevel_frame (i : Input) :
    (s.takeLevel i).ldc = s.ldc ∧
    (s.takeLevel i).trb = s.trb ∧
    (s.takeLevel i).lnk = s.lnk ∧
    (s.takeLevel i).pending = s.pending := by
  unfold State.takeLevel; try dsimp only
  simp

@[simp] theorem rawChange_frame (i : Input) (b : Bool) (u : Fin 1000) :
    (s.rawChange i b u).ldc = s.ldc ∧
    (s.rawChange i b u).trb = s.trb ∧
    (s.rawChange i b u).lnk = s.lnk ∧
    (s.rawChange i b u).pending = s.pending := by
  unfold State.rawChange; try dsimp only
  (repeat' split) <;> simp

@[simp] theorem debounceEnd_frame (i : Input) (u : Fin 1000) :
    (s.debounceEnd i u).ldc = s.ldc ∧
    (s.debounceEnd i u).trb = s.trb ∧
    (s.debounceEnd i u).lnk = s.lnk ∧
    (s.debounceEnd i u).pending = s.pending := by
  unfold State.debounceEnd; try dsimp only
  (repeat' split) <;> simp

@[simp] theorem takeDue_frame (i : Input) (m : Instant) :
    (s.takeDue i m).ldc = s.ldc ∧
    (s.takeDue i m).trb = s.trb ∧
    (s.takeDue i m).lnk = s.lnk ∧
    (s.takeDue i m).pending = s.pending := by
  unfold State.takeDue; try dsimp only
  (repeat' split) <;> simp

@[simp] theorem configureInput_frame (i : Input) (v : Bool) (w : Nat) (q : Bool) :
    (s.configureInput i v w q).ldc = s.ldc ∧
    (s.configureInput i v w q).trb = s.trb ∧
    (s.configureInput i v w q).lnk = s.lnk ∧
    (s.configureInput i v w q).pending = s.pending := by
  unfold State.configureInput; try dsimp only
  (repeat' split) <;> simp

@[simp] theorem setRangeMode_frame (m : RangeMode) :
    (s.setRangeMode m).dio = s.dio ∧
    (s.setRangeMode m).xtc = s.xtc ∧
    (s.setRangeMode m).smp = s.smp ∧
    (s.setRangeMode m).xhs = s.xhs ∧
    (s.setRangeMode m).dec = s.dec ∧
    (s.setRangeMode m).tsq = s.tsq ∧
    (s.setRangeMode m).res = s.res ∧
    (s.setRangeMode m).trb = s.trb ∧
    (s.setRangeMode m).lnk = s.lnk ∧
    (s.setRangeMode m).pending = s.pending := by
  unfold State.setRangeMode; try dsimp only
  (repeat' split) <;> simp

@[simp] theorem seatArms_frame (n : Bool × Bool) :
    (s.seatArms n).dio = s.dio ∧
    (s.seatArms n).ldc = s.ldc ∧
    (s.seatArms n).xhs = s.xhs ∧
    (s.seatArms n).dec = s.dec ∧
    (s.seatArms n).tsq = s.tsq ∧
    (s.seatArms n).res = s.res ∧
    (s.seatArms n).trb = s.trb ∧
    (s.seatArms n).lnk = s.lnk ∧
    (s.seatArms n).pending = s.pending := by
  unfold State.seatArms; try dsimp only
  simp

@[simp] theorem zeroArms_frame (n : Bool × Bool) :
    (s.zeroArms n).dio = s.dio ∧
    (s.zeroArms n).ldc = s.ldc ∧
    (s.zeroArms n).xhs = s.xhs ∧
    (s.zeroArms n).dec = s.dec ∧
    (s.zeroArms n).tsq = s.tsq ∧
    (s.zeroArms n).res = s.res ∧
    (s.zeroArms n).trb = s.trb ∧
    (s.zeroArms n).lnk = s.lnk ∧
    (s.zeroArms n).pending = s.pending := by
  unfold State.zeroArms; try dsimp only
  simp

@[simp] theorem jogOn_frame (v : Int) :
    (s.jogOn v).dio = s.dio ∧
    (s.jogOn v).ldc = s.ldc ∧
    (s.jogOn v).xtc = s.xtc ∧
    (s.jogOn v).smp = s.smp ∧
    (s.jogOn v).dec = s.dec ∧
    (s.jogOn v).tsq = s.tsq ∧
    (s.jogOn v).res = s.res ∧
    (s.jogOn v).trb = s.trb ∧
    (s.jogOn v).lnk = s.lnk ∧
    (s.jogOn v).pending = s.pending := by
  unfold State.jogOn; try dsimp only
  (repeat' split) <;> simp

@[simp] theorem jogOff_frame :
    (s.jogOff).dio = s.dio ∧
    (s.jogOff).ldc = s.ldc ∧
    (s.jogOff).xtc = s.xtc ∧
    (s.jogOff).smp = s.smp ∧
    (s.jogOff).dec = s.dec ∧
    (s.jogOff).tsq = s.tsq ∧
    (s.jogOff).res = s.res ∧
    (s.jogOff).trb = s.trb ∧
    (s.jogOff).lnk = s.lnk ∧
    (s.jogOff).pending = s.pending := by
  unfold State.jogOff; try dsimp only
  (repeat' split) <;> simp

@[simp] theorem moveOn_frame (x v : Int) :
    (s.moveOn x v).dio = s.dio ∧
    (s.moveOn x v).ldc = s.ldc ∧
    (s.moveOn x v).xtc = s.xtc ∧
    (s.moveOn x v).smp = s.smp ∧
    (s.moveOn x v).dec = s.dec ∧
    (s.moveOn x v).tsq = s.tsq ∧
    (s.moveOn x v).res = s.res ∧
    (s.moveOn x v).trb = s.trb ∧
    (s.moveOn x v).lnk = s.lnk ∧
    (s.moveOn x v).pending = s.pending := by
  unfold State.moveOn; try dsimp only
  (repeat' split) <;> simp

@[simp] theorem stopMotion_frame :
    (s.stopMotion).dio = s.dio ∧
    (s.stopMotion).ldc = s.ldc ∧
    (s.stopMotion).xtc = s.xtc ∧
    (s.stopMotion).smp = s.smp ∧
    (s.stopMotion).dec = s.dec ∧
    (s.stopMotion).tsq = s.tsq ∧
    (s.stopMotion).res = s.res ∧
    (s.stopMotion).trb = s.trb ∧
    (s.stopMotion).lnk = s.lnk ∧
    (s.stopMotion).pending = s.pending := by
  unfold State.stopMotion; try dsimp only
  (repeat' split) <;> simp

@[simp] theorem unproveMonitor_frame :
    (s.unproveMonitor).dio = s.dio ∧
    (s.unproveMonitor).ldc = s.ldc ∧
    (s.unproveMonitor).xtc = s.xtc ∧
    (s.unproveMonitor).smp = s.smp ∧
    (s.unproveMonitor).dec = s.dec ∧
    (s.unproveMonitor).tsq = s.tsq ∧
    (s.unproveMonitor).res = s.res ∧
    (s.unproveMonitor).trb = s.trb ∧
    (s.unproveMonitor).lnk = s.lnk ∧
    (s.unproveMonitor).pending = s.pending := by
  unfold State.unproveMonitor; try dsimp only
  (repeat' split) <;> simp

@[simp] theorem setFrameConfig_frame (c : FrameConfig) :
    (s.setFrameConfig c).dio = s.dio ∧
    (s.setFrameConfig c).ldc = s.ldc ∧
    (s.setFrameConfig c).xtc = s.xtc ∧
    (s.setFrameConfig c).smp = s.smp ∧
    (s.setFrameConfig c).dec = s.dec ∧
    (s.setFrameConfig c).tsq = s.tsq ∧
    (s.setFrameConfig c).res = s.res ∧
    (s.setFrameConfig c).trb = s.trb ∧
    (s.setFrameConfig c).lnk = s.lnk ∧
    (s.setFrameConfig c).pending = s.pending := by
  unfold State.setFrameConfig; try dsimp only
  (repeat' split) <;> simp

@[simp] theorem startSource_frame (p : Profile) :
    (s.startSource p).dio = s.dio ∧
    (s.startSource p).ldc = s.ldc ∧
    (s.startSource p).xtc = s.xtc ∧
    (s.startSource p).xhs = s.xhs ∧
    (s.startSource p).dec = s.dec ∧
    (s.startSource p).tsq = s.tsq ∧
    (s.startSource p).res = s.res ∧
    (s.startSource p).trb = s.trb ∧
    (s.startSource p).lnk = s.lnk ∧
    (s.startSource p).pending = s.pending := by
  unfold State.startSource; try dsimp only
  simp

@[simp] theorem beginFirst_frame (p : Profile) :
    (s.beginFirst p).dio = s.dio ∧
    (s.beginFirst p).evq = s.evq ∧
    (s.beginFirst p).ldc = s.ldc ∧
    (s.beginFirst p).xtc = s.xtc ∧
    (s.beginFirst p).smp = s.smp ∧
    (s.beginFirst p).dec = s.dec ∧
    (s.beginFirst p).tsq = s.tsq ∧
    (s.beginFirst p).res = s.res ∧
    (s.beginFirst p).trb = s.trb ∧
    (s.beginFirst p).lnk = s.lnk ∧
    (s.beginFirst p).pending = s.pending := by
  unfold State.beginFirst; try dsimp only
  (repeat' split) <;> simp

@[simp] theorem startRecords_frame (p : Profile) :
    (s.startRecords p).dio = s.dio ∧
    (s.startRecords p).evq = s.evq ∧
    (s.startRecords p).ldc = s.ldc ∧
    (s.startRecords p).xtc = s.xtc ∧
    (s.startRecords p).smp = s.smp ∧
    (s.startRecords p).xhs = s.xhs ∧
    (s.startRecords p).dec = s.dec ∧
    (s.startRecords p).tsq = s.tsq ∧
    (s.startRecords p).lnk = s.lnk ∧
    (s.startRecords p).pending = s.pending := by
  unfold State.startRecords; try dsimp only
  simp

@[simp] theorem startTest_frame (p : Profile) :
    (s.startTest p).dio = s.dio ∧
    (s.startTest p).ldc = s.ldc ∧
    (s.startTest p).xtc = s.xtc ∧
    (s.startTest p).lnk = s.lnk ∧
    (s.startTest p).pending = s.pending := by
  unfold State.startTest; try dsimp only
  simp

@[simp] theorem holdTest_frame :
    (s.holdTest).dio = s.dio ∧
    (s.holdTest).ldc = s.ldc ∧
    (s.holdTest).xtc = s.xtc ∧
    (s.holdTest).smp = s.smp ∧
    (s.holdTest).dec = s.dec ∧
    (s.holdTest).res = s.res ∧
    (s.holdTest).trb = s.trb ∧
    (s.holdTest).lnk = s.lnk ∧
    (s.holdTest).pending = s.pending := by
  unfold State.holdTest; try dsimp only
  simp

@[simp] theorem resumeTest_frame :
    (s.resumeTest).dio = s.dio ∧
    (s.resumeTest).ldc = s.ldc ∧
    (s.resumeTest).xtc = s.xtc ∧
    (s.resumeTest).smp = s.smp ∧
    (s.resumeTest).dec = s.dec ∧
    (s.resumeTest).res = s.res ∧
    (s.resumeTest).trb = s.trb ∧
    (s.resumeTest).lnk = s.lnk ∧
    (s.resumeTest).pending = s.pending := by
  unfold State.resumeTest; try dsimp only
  (repeat' split) <;> simp

@[simp] theorem applyNow_frame (p : Profile) :
    (s.applyNow p).dio = s.dio ∧
    (s.applyNow p).ldc = s.ldc ∧
    (s.applyNow p).xtc = s.xtc ∧
    (s.applyNow p).smp = s.smp ∧
    (s.applyNow p).xhs = s.xhs ∧
    (s.applyNow p).dec = s.dec ∧
    (s.applyNow p).res = s.res ∧
    (s.applyNow p).trb = s.trb ∧
    (s.applyNow p).lnk = s.lnk ∧
    (s.applyNow p).pending = s.pending := by
  unfold State.applyNow; try dsimp only
  simp

@[simp] theorem chooseFrame_frame :
    (s.chooseFrame).dio = s.dio ∧
    (s.chooseFrame).evq = s.evq ∧
    (s.chooseFrame).ldc = s.ldc ∧
    (s.chooseFrame).xtc = s.xtc ∧
    (s.chooseFrame).smp = s.smp ∧
    (s.chooseFrame).xhs = s.xhs ∧
    (s.chooseFrame).dec = s.dec ∧
    (s.chooseFrame).tsq = s.tsq ∧
    (s.chooseFrame).res = s.res ∧
    (s.chooseFrame).pending = s.pending := by
  unfold State.chooseFrame; try dsimp only
  (repeat' split) <;> simp

@[simp] theorem kick_frame :
    (s.kick).dio = s.dio ∧
    (s.kick).evq = s.evq ∧
    (s.kick).ldc = s.ldc ∧
    (s.kick).xtc = s.xtc ∧
    (s.kick).smp = s.smp ∧
    (s.kick).xhs = s.xhs ∧
    (s.kick).dec = s.dec ∧
    (s.kick).tsq = s.tsq ∧
    (s.kick).res = s.res ∧
    (s.kick).pending = s.pending := by
  unfold State.kick; try dsimp only
  (repeat' split) <;> simp

end Sys2Proof.Machine
end

