-- ==== Sys2Proof/Laws/Chain.lean ====
section
/-! SUPPORT. The laws of the drive enable chain (`ChainLaw`) are kept by the shared operations. -/

namespace Sys2Proof.Machine

variable {s t : State}

/-- The law rests on the items of DEC, the servo mode, the speed word, the velocity command and the test state alone. -/
theorem ChainLaw.congr (h : ChainLaw s) (hd : t.dec.chain = s.dec.chain ∧ t.dec.trips = s.dec.trips ∧
    t.dec.firstOut = s.dec.firstOut ∧ t.dec.guardMode = s.dec.guardMode)
    (hx : t.xhs.mode = s.xhs.mode ∧ t.xhs.speedWord = s.xhs.speedWord ∧ t.xhs.velocity = s.xhs.velocity)
    (ht : t.tsq.state = s.tsq.state) : ChainLaw t := by
  obtain ⟨h1, h2, h3, h4⟩ := hd
  obtain ⟨h5, h6, h7⟩ := hx
  constructor <;> simp only [State.testing, h1, h2, h3, h4, h5, h6, h7, ht]
  · exact h.servo
  · exact h.word
  · exact h.velocity
  · exact h.test
  · exact h.trips
  · exact h.nodup
  · exact h.firstOut
  · exact h.guard
  · exact h.stepMode
  · exact h.returnMode

theorem ChainLaw.put (h : ChainLaw s) (e : Event) : ChainLaw (s.put e) := h.congr (by simp) (by simp) (by simp)

/-- The items of TSQ that the application of a pending copy leaves. -/
@[simp] theorem applyPending_state (w : AppliedAt) (s : State) : (s.applyPending w).tsq.state = s.tsq.state := by
  unfold State.applyPending; split <;> simp

/-- A test end leaves the end reason as the test state. -/
@[simp] theorem settlePending_state (r : EndReason) (s : State) : (s.settlePending r).tsq.state = s.tsq.state := by
  unfold State.settlePending; split <;> simp [State.dropPending]

@[simp] theorem enterEnded_state (r : EndReason) (s : State) : (s.enterEnded r).tsq.state = .ended r := by
  simp [State.enterEnded]

@[simp] theorem enterTest_state (x : TestState) (s : State) : (s.enterTest x).tsq.state = x := by simp [State.enterTest]

@[simp] theorem notePrevious_state (m : Sample) (s : State) : (s.notePrevious m).tsq.state = s.tsq.state := by
  unfold State.notePrevious; split <;> rfl

/-- A test end keeps the law outside STEP and RETURN. -/
theorem ChainLaw.enterEnded (h : ChainLaw s) (r : EndReason) (h1 : s.xhs.mode ≠ .step) (h2 : s.xhs.mode ≠ .return) :
    ChainLaw (s.enterEnded r) := by
  constructor <;> simp [State.testing, TestState.testing, h1, h2]
  · exact h.servo
  · exact h.word
  · exact h.velocity
  · exact h.trips
  · exact h.nodup
  · exact h.firstOut
  · exact h.guard

@[simp] theorem servoDisable_xhs (s : State) : s.servoDisable.xhs = s.xhs.disabled := by
  unfold State.servoDisable; try dsimp only
  split <;> simp

/-- The test state after the opening of the chain: none of the test states, when it opened by a trip. -/
theorem testChainOpened_state (c : TripCause) (s : State) : (s.testChainOpened (.trip c)).tsq.state.testing = false := by
  unfold State.testChainOpened
  split <;> simp_all [TestState.testing]
  cases hs : s.tsq.state <;> simp_all

/-- What the opening of the chain leaves: OPEN with guard mode off, XHS disabled, the trips as they were (R70, R113). -/
theorem openChain_spec (c : OpenCause) (s : State) :
    (s.openChain c).dec = { s.dec with chain := .opened, guardMode := false } ∧ (s.openChain c).xhs = s.xhs.disabled := by
  simp [State.openChain]

theorem openChain_state (c : TripCause) (s : State) : (s.openChain (.trip c)).testing = false := by
  simp [State.openChain, State.testing, testChainOpened_state]

theorem openChain_driveOff_state (s : State) : (s.openChain .driveOff).tsq.state = s.tsq.state := by
  unfold State.openChain State.testChainOpened
  dsimp only
  split <;> simp_all

/-- What a trip cause does (R112): nothing when latched already; otherwise the cause joins the set, an empty set gives the
first-out, and the chain is OPEN. -/
theorem trip_dec (c : TripCause) (s : State) : (s.trip c).dec =
    if c ∈ s.dec.trips then s.dec
    else { s.dec with
            trips := s.dec.trips ++ [c]
            firstOut := if s.dec.trips = [] then some c else s.dec.firstOut
            chain := .opened
            guardMode := if s.dec.chain = .closed then false else s.dec.guardMode } := by
  unfold State.trip
  split
  · rfl
  · dsimp only
    split <;> simp [openChain_spec, *]
    cases hc : s.dec.chain <;> simp_all

/-- A trip leaves XHS as it was, or disables it where it opens the chain. -/
theorem trip_xhs (c : TripCause) (s : State) :
    (s.trip c).xhs = if c ∉ s.dec.trips ∧ s.dec.chain = .closed then s.xhs.disabled else s.xhs := by
  unfold State.trip
  split
  · simp [*]
  · dsimp only
    split <;> simp [openChain_spec, *]

/-- A trip that opens the chain leaves no test state; any other leaves the test state as it was. -/
theorem trip_testing (c : TripCause) (s : State) (h : c ∉ s.dec.trips) (hc : s.dec.chain = .closed) :
    (s.trip c).testing = false := by
  simp [State.trip, h, hc, openChain_state]

theorem trip_same (c : TripCause) (s : State) (h : c ∈ s.dec.trips ∨ s.dec.chain = .opened) :
    (s.trip c).tsq = s.tsq := by
  unfold State.trip
  split
  · rfl
  · dsimp only
    split <;> simp_all

theorem ChainLaw.trip (h : ChainLaw s) (c : TripCause) : ChainLaw (s.trip c) := by
  by_cases hm : c ∈ s.dec.trips
  · simpa [State.trip, hm] using h
  · by_cases hc : s.dec.chain = .closed
    · have ht := h.trips hc
      have hte := trip_testing c s hm hc
      constructor <;> simp_all [trip_dec, trip_xhs, Xhs.disabled]
    · have ho : s.dec.chain = .opened := by cases hx : s.dec.chain <;> simp_all
      have hs := trip_same c s (.inr ho)
      constructor <;> simp_all [trip_dec, trip_xhs, State.testing]
      · exact h.servo.mp ho
      · exact h.word ho
      · exact h.velocity ho
      · have := h.test; simp_all [State.testing]
      · have := h.nodup
        simp [List.nodup_append, this]; exact fun x hx hxc => hm (hxc ▸ hx)
      · split
        · simp
        · have := h.firstOut; simp_all
      · cases hg : s.dec.guardMode
        · rfl
        · have := h.guard hg; simp_all
      · exact h.stepMode
      · exact h.returnMode

/-! ### DEC -/

theorem ChainLaw.overloadMark (h : ChainLaw s) (b : Bool) :
    ChainLaw { s with dec := { s.dec with overloadPresent := b } } := h.congr (by simp) (by simp) rfl

theorem ChainLaw.reportOverload (h : ChainLaw s) : ChainLaw s.reportOverload := (h.overloadMark true).trip _

theorem ChainLaw.openDriveOff (h : ChainLaw s) (ht : s.testing = false) : ChainLaw (s.openChain .driveOff) := by
  have hs := openChain_driveOff_state s
  have ht' : (s.openChain .driveOff).testing = false := by simpa [State.testing, hs] using ht
  constructor <;> simp_all [openChain_spec, Xhs.disabled]
  · exact h.nodup
  · exact h.firstOut

theorem ChainLaw.closeChain (h : ChainLaw s) (hm : s.dec.trips = []) : ChainLaw s.closeChain := by
  have hf := h.firstOut.mpr hm
  constructor <;> simp_all [State.closeChain, Xhs.closed]

theorem ChainLaw.guardOpened (h : ChainLaw s) : ChainLaw s.guardOpened := by
  unfold State.guardOpened
  split
  · split
    · exact h.trip _
    · constructor <;> simp_all [State.testing]
      · have := h.servo; simp_all
      · exact h.trips ‹_›
      · exact h.nodup
      · exact h.firstOut
      · exact h.stepMode
      · exact h.returnMode
  · exact h

theorem ChainLaw.guardClosed (h : ChainLaw s) : ChainLaw s.guardClosed := by
  constructor <;> simp_all [State.guardClosed, State.testing]
  · exact h.servo
  · exact h.word
  · exact h.velocity
  · exact h.test
  · exact h.trips
  · exact h.nodup
  · exact h.firstOut
  · exact h.stepMode
  · exact h.returnMode

theorem ChainLaw.clearTrips (h : ChainLaw s) : ChainLaw s.clearTrips := by
  unfold State.clearTrips
  dsimp only
  split
  · constructor <;> simp_all [State.testing]
    · exact h.servo
    · exact h.word
    · exact h.velocity
    · exact h.test
    · exact h.guard
    · exact h.stepMode
    · exact h.returnMode
  · constructor <;> simp_all [State.testing]
    · exact h.servo
    · exact h.word
    · exact h.velocity
    · exact h.test
    · have := h.trips; simp_all
    · exact h.nodup.filter _
    · have hf := h.firstOut
      rename_i hex
      obtain ⟨c, hc, hp⟩ := hex
      rw [hf]
      constructor
      · intro hn; simp [hn] at hc
      · intro hn; have := hn c hc; simp_all
    · exact h.guard
    · exact h.stepMode
    · exact h.returnMode

theorem ChainLaw.tripUnless (h : ChainLaw s) (c : TripCause) (b : Bool) : ChainLaw (if b then s else s.trip c) := by
  split
  exacts [h, h.trip _]

theorem ChainLaw.tripIf (h : ChainLaw s) (c : TripCause) (b : Bool) : ChainLaw (if b then s.trip c else s) := by
  split
  exacts [h.trip _, h]

theorem ChainLaw.evaluateStart (h : ChainLaw s) : ChainLaw s.evaluateStart :=
  ((h.tripUnless _ _).tripIf _ _).tripIf _ _

/-- Operations that leave DEC, XHS and TSQ as they were keep the law. -/
theorem ChainLaw.same (h : ChainLaw s) (hd : t.dec = s.dec) (hx : t.xhs = s.xhs) (ht : t.tsq = s.tsq) : ChainLaw t :=
  h.congr (by simp [hd]) (by simp [hx]) (by rw [ht])

theorem ChainLaw.consume (h : ChainLaw s) (i : Input) (b : Bool) : ChainLaw (s.consume i b) := by
  unfold State.consume
  split
  · exact h.trip _
  · exact h
  · exact h.trip _
  · exact h
  · exact h.guardOpened
  · exact h.guardClosed
  · exact h.trip _
  · exact h.congr (by simp) (by simp [State.endEscapeUp]) (by simp)
  · exact h.trip _
  · exact h.congr (by simp) (by simp [State.endEscapeDown]) (by simp)
  · unfold State.gripOpened; split; exacts [h.trip _, h]
  · exact h
  · unfold State.gripOpened; split; exacts [h.trip _, h]
  · exact h
  · exact h.same (by simp) (by simp) (by simp)
  · exact h.same (by simp) (by simp) (by simp)
  · exact h

/-! ### XHS and TSQ -/

/-- STILL while the chain is CLOSED. -/
theorem ChainLaw.toMode (h : ChainLaw s) {x : Xhs} (hc : s.dec.chain = .closed) (h1 : x.mode ≠ .disabled)
    (h2 : x.mode = .step → s.tsq.state = .running) (h3 : x.mode = .return → s.tsq.state = .returning) :
    ChainLaw { s with xhs := x } := by
  constructor <;> simp_all [State.testing]
  · exact h.trips hc
  · exact h.nodup
  · exact h.firstOut

theorem ChainLaw.servoStop (h : ChainLaw s) (hc : s.dec.chain = .closed) : ChainLaw s.servoStop :=
  h.toMode hc (by simp [Xhs.stopped, Xhs.toStill]) (by simp [Xhs.stopped, Xhs.toStill])
    (by simp [Xhs.stopped, Xhs.toStill])

@[simp] theorem servoStop_mode (s : State) : s.servoStop.xhs.mode = .still := rfl

@[simp] theorem beginBumpless_mode (x : Xhs) (n : Nat) (p : ProfileStep) : (x.beginBumpless n p).mode = .step := by
  unfold Xhs.beginBumpless; dsimp only; split <;> rfl

@[simp] theorem beginRunning_mode (x : Xhs) (p : ProfileStep) : (x.beginRunning p).mode = x.mode := by
  unfold Xhs.beginRunning; dsimp only; split <;> rfl

@[simp] theorem beginStep_mode (x : Xhs) (n : Nat) (p : ProfileStep) : (x.beginStep n p).mode = .step := by
  unfold Xhs.beginStep; split <;> simp_all

/-- In a mode other than DISABLED the chain is CLOSED. -/
theorem ChainLaw.closedOfMode (h : ChainLaw s) (hm : s.xhs.mode ≠ .disabled) : s.dec.chain = .closed := by
  cases hc : s.dec.chain
  · exact absurd (h.servo.mp hc) hm
  · rfl

theorem ChainLaw.modeOfClosed (h : ChainLaw s) (hc : s.dec.chain = .closed) : s.xhs.mode ≠ .disabled := by
  intro hm; have := h.servo.mpr hm; simp_all

theorem ChainLaw.returnEnded (h : ChainLaw s) (h1 : s.xhs.mode ≠ .step) (h2 : s.xhs.mode ≠ .return) :
    ChainLaw s.returnEnded := by
  unfold State.returnEnded; split
  exacts [h.enterEnded _ h1 h2, h]

theorem ChainLaw.softLimitHold (h : ChainLaw s) (h1 : s.xhs.mode ≠ .step) : ChainLaw s.softLimitHold := by
  unfold State.softLimitHold
  split
  · have hc := h.test (by simp [State.testing, *, TestState.testing])
    constructor <;> simp_all [State.testing]
    · exact h.modeOfClosed hc
    · exact h.trips hc
    · exact h.nodup
    · exact h.firstOut
    · intro hr; have := h.returnMode hr; simp_all
  · exact h

/-- Changes of XHS that keep the mode, in a mode other than DISABLED. -/
theorem ChainLaw.keepMode (h : ChainLaw s) {x : Xhs} (hm : x.mode = s.xhs.mode) (hn : s.xhs.mode ≠ .disabled) :
    ChainLaw { s with xhs := x } :=
  h.toMode (h.closedOfMode hn) (by simpa [hm] using hn) (by simpa [hm] using h.stepMode)
    (by simpa [hm] using h.returnMode)

theorem ChainLaw.moveArrived (h : ChainLaw s) (hn : s.xhs.mode ≠ .disabled) : ChainLaw s.moveArrived := by
  have hs : ChainLaw { s with xhs := { s.xhs with mode := .still, effRate := 0, target := none } } :=
    h.toMode (h.closedOfMode hn) (by simp) (by simp) (by simp)
  unfold State.moveArrived
  dsimp only
  split
  · exact hs.returnEnded (by simp) (by simp)
  · exact hs.put _

@[simp] theorem moveArrived_mode (s : State) : s.moveArrived.xhs.mode = .still := by
  unfold State.moveArrived; dsimp only; split <;> simp

@[simp] theorem advanceRate_mode (x : Xhs) : x.advanceRate.mode = x.mode := by
  unfold Xhs.advanceRate; split <;> try rfl
  dsimp only; split <;> rfl

theorem rateExpiry_mode (s : State) : s.rateExpiry.1.mode = s.xhs.mode := by
  unfold State.rateExpiry
  dsimp only
  repeat' split
  all_goals simp

/-- Stage 1 keeps the law and a mode other than DISABLED. -/
theorem ChainLaw.formCommand (h : ChainLaw s) (hn : s.xhs.mode ≠ .disabled) :
    ChainLaw s.formCommand.1 ∧ s.formCommand.1.xhs.mode ≠ .disabled := by
  have hmove : ChainLaw s.moveExpiry.1 ∧ s.moveExpiry.1.xhs.mode ≠ .disabled := by
    unfold State.moveExpiry
    split
    · exact ⟨h, hn⟩
    · dsimp only
      have hk : ∀ t, ChainLaw { s with xhs := s.xhs.advanceMove t } := fun t => h.keepMode rfl hn
      split
      · have hm := (hk ‹_›).moveArrived (by simpa [Xhs.advanceMove] using hn)
        simp only [State.stillExpiry]
        exact ⟨hm.keepMode rfl (by simp), by simp⟩
      · exact ⟨hk _, by simpa [Xhs.advanceMove] using hn⟩
  unfold State.formCommand
  split
  · exact ⟨h, hn⟩
  · simp only [State.stillExpiry]; exact ⟨h.keepMode rfl hn, hn⟩
  · exact ⟨h.keepMode rfl hn, hn⟩
  · exact hmove
  · exact hmove
  · split
    · exact ⟨h.keepMode (by simp [Xhs.advancePosition]) hn, by simpa [Xhs.advancePosition] using hn⟩
    · exact ⟨h.keepMode (by simp [rateExpiry_mode]) hn, by simpa [rateExpiry_mode] using hn⟩
    · exact ⟨h.keepMode (by simp [rateExpiry_mode]) hn, by simpa [rateExpiry_mode] using hn⟩

@[simp] theorem restDemand_mode (s : State) : s.restDemand.xhs.mode = s.xhs.mode := by
  unfold State.restDemand; dsimp only; repeat' split
  all_goals rfl

theorem ChainLaw.restDemand (h : ChainLaw s) (hn : s.xhs.mode ≠ .disabled) : ChainLaw s.restDemand := by
  have : s.restDemand = { s with xhs := s.restDemand.xhs } := by
    unfold State.restDemand; dsimp only; repeat' split
    all_goals rfl
  rw [this]; exact h.keepMode (by simp) hn

theorem ChainLaw.softLimitEffect (h : ChainLaw s) (hn : s.xhs.mode ≠ .disabled) (u : Bool) :
    ChainLaw (s.softLimitEffect u) ∧ (s.softLimitEffect u).xhs.mode ≠ .disabled := by
  have hc := h.closedOfMode hn
  have hs : ChainLaw { s with xhs := s.xhs.stopped } := h.servoStop hc
  have hq : ChainLaw { s with xhs := s.xhs.toStill } :=
    h.toMode hc (by simp [Xhs.toStill]) (by simp [Xhs.toStill]) (by simp [Xhs.toStill])
  unfold State.softLimitEffect
  split
  · exact ⟨h, hn⟩
  · exact ⟨h, hn⟩
  · exact ⟨hq.put _, by simp [Xhs.toStill]⟩
  · exact ⟨h, hn⟩
  · exact ⟨(hs.put _).softLimitHold (by simp [Xhs.stopped, Xhs.toStill]), by simp [Xhs.stopped, Xhs.toStill]⟩
  · exact ⟨(hq.put _).returnEnded (by simp [Xhs.toStill]) (by simp [Xhs.toStill]), by simp [Xhs.toStill]⟩

theorem ChainLaw.commandStages (h : ChainLaw s) (hn : s.xhs.mode ≠ .disabled) :
    ChainLaw s.commandStages.1 ∧ s.commandStages.1.xhs.mode ≠ .disabled := by
  have h1 := h.formCommand hn
  have h2 : ChainLaw (State.applyEscape s.formCommand).1 ∧ (State.applyEscape s.formCommand).1.xhs.mode ≠ .disabled := by
    unfold State.applyEscape
    split
    · exact ⟨h1.1.restDemand h1.2, by simpa using h1.2⟩
    · exact h1
  unfold State.commandStages
  dsimp only
  generalize (State.applyEscape s.formCommand).1 = u at h2
  generalize (State.applyEscape s.formCommand).2 = v
  unfold State.softLimits
  split
  · exact ChainLaw.softLimitEffect (h2.1.keepMode (x := { u.xhs with posAcc := u.xhs.restAcc }) rfl h2.2) h2.2 _
  · exact h2

theorem ChainLaw.servoExpiry (h : ChainLaw s) : ChainLaw s.servoExpiry := by
  unfold State.servoExpiry
  split
  · rename_i hm
    have ho := h.servo.mpr hm
    unfold State.disabledExpiry State.monitorExpiry
    dsimp only
    split
    · exact h.congr (by simp) (by simp [h.word ho, h.velocity ho]) (by simp)
    · split
      · exact h.congr (by simp) (by simp [State.endMonitor, h.word ho, h.velocity ho]) (by simp)
      · exact h.congr (by simp) (by simp [h.word ho, h.velocity ho]) (by simp)
  · rename_i hm
    have h1 := h.commandStages hm
    have h2 : ChainLaw (State.driveSpeed s.commandStages) := h1.1.keepMode rfl h1.2
    have h3 : ChainLaw (State.driveSpeed s.commandStages).checkTracking := by
      unfold State.checkTracking
      dsimp only
      have : ChainLaw { (State.driveSpeed s.commandStages) with
          xhs := { (State.driveSpeed s.commandStages).xhs with
            trackCount := (State.driveSpeed s.commandStages).xhs.nextTrackCount } } :=
        h2.congr (by simp) (by simp) rfl
      split
      exacts [this.trip _, this]
    unfold State.activeExpiry
    exact h3.congr (by simp) (by simp [Xhs.advanceModel]) rfl

theorem ChainLaw.jogLapse (h : ChainLaw s) : ChainLaw s.jogLapse := by
  unfold State.jogLapse
  split
  · rename_i hm
    have hq : ChainLaw { s with xhs := s.xhs.toStill } :=
      h.toMode (h.closedOfMode (by simp [hm.1])) (by simp [Xhs.toStill]) (by simp [Xhs.toStill]) (by simp [Xhs.toStill])
    exact hq.put _
  · exact h

theorem ChainLaw.encoderSample (h : ChainLaw s) (x y : Bool) : ChainLaw (s.encoderSample x y) := by
  have hk : ChainLaw { s with xhs := { s.xhs with chanA := x, chanB := y } } := h.congr (by simp) (by simp) rfl
  unfold State.encoderSample
  dsimp only
  split
  · exact hk
  · exact hk.trip _
  · exact h.congr (by simp) (by simp) rfl

/-! ### LDC and the sample -/

theorem ChainLaw.convertLoad (h : ChainLaw s) (c : Int) : ChainLaw (s.convertLoad c).1 := by
  have h0 : ∀ l : Ldc, ChainLaw { s with ldc := l } := fun l => h.same rfl rfl rfl
  have h1 : ∀ (k : LoadClass) (r : LoadResult) (l : Ldc), ChainLaw (State.testOverload k c r { s with ldc := l }) := by
    intro k r l
    unfold State.testOverload
    split
    · split
      exacts [h0 _, (h0 _).reportOverload]
    · split
      · split
        exacts [(h0 _).reportOverload, (h0 _).overloadMark false]
      · exact h0 _
  exact (h1 (s.loadClass c) (s.loadResult (s.loadClass c) c) (s.ldc.afterResult (s.loadClass c)
    (s.loadResult (s.loadClass c) c))).same (by simp [State.convertLoad]) (by simp [State.convertLoad])
    (by simp [State.convertLoad])

theorem ChainLaw.breakDetected (h : ChainLaw s) (hs : s.tsq.state.sampling = true) : ChainLaw s.breakDetected := by
  have hc : s.dec.chain = .closed := h.test (by
    unfold State.testing; cases hx : s.tsq.state <;> simp_all [TestState.sampling, TestState.testing])
  unfold State.breakDetected
  dsimp only
  generalize hf : Option.map (fun x : LoadedSample => x.index) s.tsq.prevLoaded = f
  have h1 : ChainLaw { s with tsq := { s.tsq with breakFound := true, fracture := f } } := h.congr (by simp) (by simp) rfl
  have h2 := h1.servoStop hc
  generalize ht : ({ s with tsq := { s.tsq with breakFound := true, fracture := f } } : State) = t at h1 h2
  have h3 : ChainLaw ((t.servoStop.breakRelease).resBreak f) := h2.same (by simp) (by simp) (by simp)
  have h4 := h3.put (.breakFound (((t.servoStop.breakRelease).resBreak f).tsq.step.getD 0) (f.getD 0))
  have hct : t.dec.chain = .closed := by rw [← ht]; exact hc
  generalize hu : State.put (.breakFound (((t.servoStop.breakRelease).resBreak f).tsq.step.getD 0) (f.getD 0))
    ((t.servoStop.breakRelease).resBreak f) = u at h4
  have hm : u.xhs.mode = .still := by rw [← hu]; simp
  have hcu : u.dec.chain = .closed := by rw [← hu]; simp [hct]
  unfold State.afterBreak
  have hend : ChainLaw (u.enterEnded .break) := h4.enterEnded _ (by simp [hm]) (by simp [hm])
  split
  · split
    · unfold State.enterReturning
      have h5 : ChainLaw (u.enterTest .returning) := by
        constructor <;> simp_all [State.testing]
        · exact h4.trips hcu
        · exact h4.nodup
        · exact h4.firstOut
      exact h5.toMode (by simpa using hcu) (by simp) (by simp) (by simp)
    · exact hend
  · exact hend

theorem ChainLaw.stepBoundary (h : ChainLaw s) (hs : s.tsq.state = .running) : ChainLaw s.stepBoundary := by
  have hc : s.dec.chain = .closed := h.test (by simp [State.testing, hs, TestState.testing])
  unfold State.stepBoundary
  have h1 : ChainLaw (s.stepRelease.applyPending .boundary) := h.congr (by simp) (by simp) (by simp)
  have hc1 : (s.stepRelease.applyPending .boundary).dec.chain = .closed := by simpa using hc
  have hs1 : (s.stepRelease.applyPending .boundary).tsq.state = .running := by simpa using hs
  generalize s.stepRelease.applyPending .boundary = t at h1 hc1 hs1
  unfold State.nextStep
  dsimp only
  split
  · apply ChainLaw.put
    have h2 : ChainLaw { t with tsq := { t.tsq with step := some (t.tsq.step.getD 0 + 1), stepTime := 0 } } :=
      h1.congr (by simp) (by simp) rfl
    exact h2.toMode hc1 (by simp) (by simp [hs1]) (by simp)
  · exact (h1.servoStop hc1).enterEnded _ (by simp) (by simp)

theorem ChainLaw.testTake (h : ChainLaw s) (m : Sample) (b : Bool) : ChainLaw (s.testTake m b) := by
  have hn : ∀ u : State, ChainLaw u → ChainLaw (u.notePrevious m) := fun u hu =>
    hu.congr (by simp) (by simp) (by simp)
  unfold State.testTake
  split
  · exact h
  · rename_i hs
    have h1 : ChainLaw s.countStep := h.congr (by simp) (by simp) rfl
    unfold State.runningTake
    dsimp only
    split
    · exact h1.breakDetected (by simp [State.countStep, hs, TestState.sampling])
    · split
      · exact (hn _ h1).stepBoundary (by simp [State.countStep, hs])
      · exact hn _ h1
  · rename_i hs
    unfold State.holdingTake
    split
    · exact h.breakDetected (by simp [hs, TestState.sampling])
    · exact hn _ h
  · exact h
  · exact h

theorem ChainLaw.deliver (h : ChainLaw s) (m : Sample) : ChainLaw (s.deliver m) := by
  unfold State.deliver
  dsimp only
  split
  · have h1 : ChainLaw (s.resTake m) := h.same (by simp) (by simp) (by simp)
    have h2 := h1.testTake m (foundBetween s.res.items.firstYield (s.resTake m).res.items.firstYield)
    exact h2.same (by simp) (by simp) (by simp)
  · exact h.same (by simp) (by simp) (by simp)

theorem ChainLaw.loadConversion (h : ChainLaw s) (c : Int) : ChainLaw (s.loadConversion c) := by
  unfold State.loadConversion State.sampleLoad
  dsimp only
  apply ChainLaw.deliver
  exact (h.convertLoad c).same (by simp) (by simp) (by simp)

/-! ### A test start -/

theorem ChainLaw.startTest (h : ChainLaw s) (p : Profile) (ht : s.testing = false) (hc : s.dec.chain = .closed) :
    ChainLaw (s.startTest p) := by
  have hm1 : s.xhs.mode ≠ .step := by
    intro hm; have := h.stepMode hm; simp [State.testing, this, TestState.testing] at ht
  have hm2 : s.xhs.mode ≠ .return := by
    intro hm; have := h.returnMode hm; simp [State.testing, this, TestState.testing] at ht
  have h1 : ChainLaw s.startSequence := by
    constructor <;> simp_all [State.testing]
    · exact h.modeOfClosed hc
    · exact h.trips hc
    · exact h.nodup
    · exact h.firstOut
  have h2 : ChainLaw (((s.startSequence.put (.test .running)).startSource p).startRecords p) :=
    h1.same (by simp) (by simp) (by simp)
  have h3 : ChainLaw ((((s.startSequence.put (.test .running)).startSource p).startRecords p).beginFirst p) := by
    unfold State.beginFirst
    split
    · exact h2.toMode (by simpa using hc) (by simp) (by simp [State.startSequence]) (by simp)
    · exact h2
  unfold State.startTest State.guardAtStart
  dsimp only
  split
  exacts [h3.put _, (h3.put _).trip _]

theorem ChainLaw.resumeTest (h : ChainLaw s) (c : HoldCause) (hs : s.tsq.state = .holding c) : ChainLaw s.resumeTest := by
  have hc : s.dec.chain = .closed := h.test (by simp [State.testing, hs, TestState.testing])
  have key : ∀ x : Xhs, x.mode ≠ .disabled → x.mode ≠ .return → ChainLaw (State.enterTest .running { s with xhs := x }) := by
    intro x h1 h2
    constructor <;> simp_all [State.testing]
    · exact h.trips hc
    · exact h.nodup
    · exact h.firstOut
  unfold State.resumeTest
  dsimp only
  split
  · exact key _ (by simp) (by simp)
  · exact key s.xhs (h.modeOfClosed hc) (by intro hm; have := h.returnMode hm; simp_all)

theorem ChainLaw.holdTest (h : ChainLaw s) (hs : s.tsq.state = .running) : ChainLaw s.holdTest := by
  have hc : s.dec.chain = .closed := h.test (by simp [State.testing, hs, TestState.testing])
  constructor <;> simp_all [State.testing, State.holdTest]
  · exact h.trips hc
  · exact h.nodup
  · exact h.firstOut

end Sys2Proof.Machine
end

