-- ==== Sys2Proof/Laws/Events.lean ====
section
/-! SUPPORT. Every shared operation keeps the bound of the event queue (R103): the queue holds at most 32 entries after it exactly
when it did before it. -/

namespace Sys2Proof.Machine

variable (s : State)

/-- The event queue holds at most 32 entries (R103). -/
def Evq.bounded (q : Evq) : Prop := q.entries.length ≤ eventCapacity

@[simp] theorem put_bounded (e : Event) : (s.put e).evq.bounded ↔ s.evq.bounded := by
  unfold State.put Evq.bounded; split <;> simp <;> omega

@[simp] theorem enterTest_bounded (t : TestState) : (s.enterTest t).evq.bounded ↔ s.evq.bounded := by
  simp [State.enterTest]

@[simp] theorem changeArm_bounded (w : Arm) (r : ArmRec) : (s.changeArm w r).evq.bounded ↔ s.evq.bounded := by
  simp [State.changeArm]

@[simp] theorem setSource_bounded (x : StrainSource) (o : Int) (c : SourceCause) :
    (s.setSource x o c).evq.bounded ↔ s.evq.bounded := by
  unfold State.setSource; try dsimp only
  (repeat' split) <;> simp

@[simp] theorem followSet_bounded (c : SourceCause) :
    (s.followSet c).evq.bounded ↔ s.evq.bounded := by
  unfold State.followSet; try dsimp only
  simp

@[simp] theorem sourceAtTestEnd_bounded :
    (s.sourceAtTestEnd).evq.bounded ↔ s.evq.bounded := by
  unfold State.sourceAtTestEnd; try dsimp only
  simp

@[simp] theorem fallBack_bounded (x : StrainSource) :
    (s.fallBack x).evq.bounded ↔ s.evq.bounded := by
  unfold State.fallBack; try dsimp only
  simp

@[simp] theorem handOver_bounded :
    (s.handOver).evq.bounded ↔ s.evq.bounded := by
  unfold State.handOver; try dsimp only
  simp

@[simp] theorem sourceAtRelease_bounded (b : Bool × Bool) :
    (s.sourceAtRelease b).evq.bounded ↔ s.evq.bounded := by
  unfold State.sourceAtRelease; try dsimp only
  (repeat' split) <;> simp

@[simp] theorem sourceAtArmChange_bounded :
    (s.sourceAtArmChange).evq.bounded ↔ s.evq.bounded := by
  unfold State.sourceAtArmChange; try dsimp only
  (repeat' split) <;> simp

@[simp] theorem enterReleasing_bounded (w : Arm) :
    (s.enterReleasing w).evq.bounded ↔ s.evq.bounded := by
  unfold State.enterReleasing; try dsimp only
  (repeat' split) <;> simp

@[simp] theorem releaseArm_bounded (b r : Bool) (w : Arm) :
    (s.releaseArm b r w).evq.bounded ↔ s.evq.bounded := by
  unfold State.releaseArm; try dsimp only
  (repeat' split) <;> simp

@[simp] theorem releaseArms_bounded (x y r : Bool) :
    (s.releaseArms x y r).evq.bounded ↔ s.evq.bounded := by
  unfold State.releaseArms; try dsimp only
  simp

@[simp] theorem releaseStart_bounded (x y r : Bool) :
    (s.releaseStart x y r).evq.bounded ↔ s.evq.bounded := by
  unfold State.releaseStart; try dsimp only
  simp

@[simp] theorem forceHandover_bounded :
    (s.forceHandover).evq.bounded ↔ s.evq.bounded := by
  unfold State.forceHandover; try dsimp only
  simp

@[simp] theorem sourceAtExclusion_bounded (b : Bool × Bool) :
    (s.sourceAtExclusion b).evq.bounded ↔ s.evq.bounded := by
  unfold State.sourceAtExclusion; try dsimp only
  (repeat' split) <;> simp

@[simp] theorem excludeArm_bounded (w : Arm) (c : ExclusionCause) :
    (s.excludeArm w c).evq.bounded ↔ s.evq.bounded := by
  unfold State.excludeArm; try dsimp only
  simp

@[simp] theorem enterSeating_bounded (w : Arm) :
    (s.enterSeating w).evq.bounded ↔ s.evq.bounded := by
  unfold State.enterSeating; try dsimp only
  (repeat' split) <;> simp

@[simp] theorem seatArm_bounded (n : Bool) (w : Arm) :
    (s.seatArm n w).evq.bounded ↔ s.evq.bounded := by
  unfold State.seatArm; try dsimp only
  (repeat' split) <;> simp

@[simp] theorem seatChanged_bounded (w : Arm) (c : Bool) :
    (s.seatChanged w c).evq.bounded ↔ s.evq.bounded := by
  unfold State.seatChanged; try dsimp only
  (repeat' split) <;> simp

@[simp] theorem seatTimeout_bounded (w : Arm) :
    (s.seatTimeout w).evq.bounded ↔ s.evq.bounded := by
  unfold State.seatTimeout; try dsimp only
  (repeat' split) <;> simp

@[simp] theorem releaseTimeout_bounded (w : Arm) :
    (s.releaseTimeout w).evq.bounded ↔ s.evq.bounded := by
  unfold State.releaseTimeout; try dsimp only
  (repeat' split) <;> simp

@[simp] theorem zeroArm_bounded (n : Bool) (w : Arm) :
    (s.zeroArm n w).evq.bounded ↔ s.evq.bounded := by
  unfold State.zeroArm; try dsimp only
  (repeat' split) <;> simp

@[simp] theorem zeroConversion_bounded (w : Arm) (c : Int) :
    (s.zeroConversion w c).evq.bounded ↔ s.evq.bounded := by
  unfold State.zeroConversion; try dsimp only
  (repeat' split) <;> simp

@[simp] theorem zeroedConversion_bounded (w : Arm) (c : Int) :
    (s.zeroedConversion w c).evq.bounded ↔ s.evq.bounded := by
  unfold State.zeroedConversion; try dsimp only
  (repeat' split) <;> simp

@[simp] theorem extConversion_bounded (w : Arm) (c : Int) :
    (s.extConversion w c).evq.bounded ↔ s.evq.bounded := by
  unfold State.extConversion; try dsimp only
  (repeat' split) <;> simp

@[simp] theorem putAll_bounded (l : List Event) :
    (State.putAll l s).evq.bounded ↔ s.evq.bounded := by
  induction l generalizing s with
  | nil => simp [State.putAll]
  | cons e l ih => simp [State.putAll, ih]

@[simp] theorem resTake_bounded (m : Sample) :
    (s.resTake m).evq.bounded ↔ s.evq.bounded := by
  unfold State.resTake; try dsimp only
  (repeat' split) <;> simp

@[simp] theorem resEnd_bounded (r : EndReason) :
    (s.resEnd r).evq.bounded ↔ s.evq.bounded := by
  unfold State.resEnd; try dsimp only
  (repeat' split) <;> simp

@[simp] theorem applyPending_bounded (w : AppliedAt) :
    (s.applyPending w).evq.bounded ↔ s.evq.bounded := by
  unfold State.applyPending; try dsimp only
  (repeat' split) <;> simp

@[simp] theorem settlePending_bounded (r : EndReason) :
    (s.settlePending r).evq.bounded ↔ s.evq.bounded := by
  unfold State.settlePending; try dsimp only
  (repeat' split) <;> simp

@[simp] theorem enterEnded_bounded (r : EndReason) :
    (s.enterEnded r).evq.bounded ↔ s.evq.bounded := by
  unfold State.enterEnded; try dsimp only
  simp

@[simp] theorem returnEnded_bounded :
    (s.returnEnded).evq.bounded ↔ s.evq.bounded := by
  unfold State.returnEnded; try dsimp only
  (repeat' split) <;> simp

@[simp] theorem softLimitHold_bounded :
    (s.softLimitHold).evq.bounded ↔ s.evq.bounded := by
  unfold State.softLimitHold; try dsimp only
  (repeat' split) <;> simp

@[simp] theorem servoDisable_bounded :
    (s.servoDisable).evq.bounded ↔ s.evq.bounded := by
  unfold State.servoDisable; try dsimp only
  (repeat' split) <;> simp

@[simp] theorem testChainOpened_bounded (c : OpenCause) :
    (s.testChainOpened c).evq.bounded ↔ s.evq.bounded := by
  unfold State.testChainOpened; try dsimp only
  (repeat' split) <;> simp

@[simp] theorem openChain_bounded (c : OpenCause) :
    (s.openChain c).evq.bounded ↔ s.evq.bounded := by
  unfold State.openChain; try dsimp only
  simp

@[simp] theorem trip_bounded (c : TripCause) :
    (s.trip c).evq.bounded ↔ s.evq.bounded := by
  unfold State.trip; try dsimp only
  (repeat' split) <;> simp

@[simp] theorem reportOverload_bounded :
    (s.reportOverload).evq.bounded ↔ s.evq.bounded := by
  unfold State.reportOverload; try dsimp only
  simp

@[simp] theorem closeChain_bounded :
    (s.closeChain).evq.bounded ↔ s.evq.bounded := by
  unfold State.closeChain; try dsimp only
  simp

@[simp] theorem guardOpened_bounded :
    (s.guardOpened).evq.bounded ↔ s.evq.bounded := by
  unfold State.guardOpened; try dsimp only
  (repeat' split) <;> simp

@[simp] theorem guardAtStart_bounded :
    (s.guardAtStart).evq.bounded ↔ s.evq.bounded := by
  unfold State.guardAtStart; try dsimp only
  (repeat' split) <;> simp

@[simp] theorem gripOpened_bounded :
    (s.gripOpened).evq.bounded ↔ s.evq.bounded := by
  unfold State.gripOpened; try dsimp only
  (repeat' split) <;> simp

@[simp] theorem consume_bounded (i : Input) (b : Bool) :
    (s.consume i b).evq.bounded ↔ s.evq.bounded := by
  unfold State.consume; try dsimp only
  (repeat' split) <;> simp

@[simp] theorem clearTrips_bounded :
    (s.clearTrips).evq.bounded ↔ s.evq.bounded := by
  unfold State.clearTrips; try dsimp only
  (repeat' split) <;> simp

@[simp] theorem evaluateStart_bounded :
    (s.evaluateStart).evq.bounded ↔ s.evq.bounded := by
  unfold State.evaluateStart; try dsimp only
  (repeat' split) <;> simp

@[simp] theorem moveArrived_bounded :
    (s.moveArrived).evq.bounded ↔ s.evq.bounded := by
  unfold State.moveArrived; try dsimp only
  (repeat' split) <;> simp

@[simp] theorem softLimitEffect_bounded (u : Bool) :
    (s.softLimitEffect u).evq.bounded ↔ s.evq.bounded := by
  unfold State.softLimitEffect; try dsimp only
  (repeat' split) <;> simp

@[simp] theorem checkTracking_bounded :
    (s.checkTracking).evq.bounded ↔ s.evq.bounded := by
  unfold State.checkTracking; try dsimp only
  (repeat' split) <;> simp

@[simp] theorem endMonitor_bounded (p : Bool) :
    (s.endMonitor p).evq.bounded ↔ s.evq.bounded := by
  unfold State.endMonitor; try dsimp only
  simp

@[simp] theorem monitorExpiry_bounded :
    (s.monitorExpiry).evq.bounded ↔ s.evq.bounded := by
  unfold State.monitorExpiry; try dsimp only
  (repeat' split) <;> simp

@[simp] theorem disabledExpiry_bounded :
    (s.disabledExpiry).evq.bounded ↔ s.evq.bounded := by
  unfold State.disabledExpiry; try dsimp only
  simp

@[simp] theorem jogLapse_bounded :
    (s.jogLapse).evq.bounded ↔ s.evq.bounded := by
  unfold State.jogLapse; try dsimp only
  (repeat' split) <;> simp

@[simp] theorem encoderSample_bounded (x y : Bool) :
    (s.encoderSample x y).evq.bounded ↔ s.evq.bounded := by
  unfold State.encoderSample; try dsimp only
  (repeat' split) <;> simp

@[simp] theorem abandonTare_bounded :
    (s.abandonTare).evq.bounded ↔ s.evq.bounded := by
  unfold State.abandonTare; try dsimp only
  (repeat' split) <;> simp

@[simp] theorem abandonShunt_bounded (r : LoadRange) :
    (s.abandonShunt r).evq.bounded ↔ s.evq.bounded := by
  unfold State.abandonShunt; try dsimp only
  (repeat' split) <;> simp

@[simp] theorem switchRange_bounded (r : LoadRange) :
    (s.switchRange r).evq.bounded ↔ s.evq.bounded := by
  unfold State.switchRange; try dsimp only
  simp

@[simp] theorem testOverload_bounded (k : LoadClass) (c : Int) (r : LoadResult) :
    (s.testOverload k c r).evq.bounded ↔ s.evq.bounded := by
  unfold State.testOverload; try dsimp only
  (repeat' split) <;> simp

@[simp] theorem conversionSwitch_bounded (k : LoadClass) (c : Int) :
    (s.conversionSwitch k c).evq.bounded ↔ s.evq.bounded := by
  unfold State.conversionSwitch; try dsimp only
  (repeat' split) <;> simp

@[simp] theorem countDown_bounded (k : LoadClass) (c : Int) (x y : Bool) :
    (s.countDown k c x y).evq.bounded ↔ s.evq.bounded := by
  unfold State.countDown; try dsimp only
  (repeat' split) <;> simp

@[simp] theorem advanceTare_bounded (k : LoadClass) (c : Int) :
    (s.advanceTare k c).evq.bounded ↔ s.evq.bounded := by
  unfold State.advanceTare; try dsimp only
  (repeat' split) <;> simp

@[simp] theorem finishShunt_bounded (k : ShuntProgress) :
    (s.finishShunt k).evq.bounded ↔ s.evq.bounded := by
  unfold State.finishShunt; try dsimp only
  (repeat' split) <;> simp

@[simp] theorem advanceShunt_bounded (k : LoadClass) (c : Int) :
    (s.advanceShunt k c).evq.bounded ↔ s.evq.bounded := by
  unfold State.advanceShunt; try dsimp only
  (repeat' split) <;> simp

@[simp] theorem advanceProgress_bounded (k : LoadClass) (c : Int) :
    (s.advanceProgress k c).evq.bounded ↔ s.evq.bounded := by
  unfold State.advanceProgress; try dsimp only
  (repeat' split) <;> simp

@[simp] theorem convertLoad_bounded (c : Int) :
    ((s.convertLoad c).1).evq.bounded ↔ s.evq.bounded := by
  unfold State.convertLoad; try dsimp only
  simp

@[simp] theorem haltLoad_bounded :
    (s.haltLoad).evq.bounded ↔ s.evq.bounded := by
  unfold State.haltLoad; try dsimp only
  simp

@[simp] theorem breakRelease_bounded :
    (s.breakRelease).evq.bounded ↔ s.evq.bounded := by
  unfold State.breakRelease; try dsimp only
  (repeat' split) <;> simp

@[simp] theorem enterReturning_bounded (v : Int) :
    (s.enterReturning v).evq.bounded ↔ s.evq.bounded := by
  unfold State.enterReturning; try dsimp only
  simp

@[simp] theorem afterBreak_bounded :
    (s.afterBreak).evq.bounded ↔ s.evq.bounded := by
  unfold State.afterBreak; try dsimp only
  (repeat' split) <;> simp

@[simp] theorem breakDetected_bounded :
    (s.breakDetected).evq.bounded ↔ s.evq.bounded := by
  unfold State.breakDetected; try dsimp only
  simp

@[simp] theorem stepRelease_bounded :
    (s.stepRelease).evq.bounded ↔ s.evq.bounded := by
  unfold State.stepRelease; try dsimp only
  (repeat' split) <;> simp

@[simp] theorem nextStep_bounded :
    (s.nextStep).evq.bounded ↔ s.evq.bounded := by
  unfold State.nextStep; try dsimp only
  (repeat' split) <;> simp

@[simp] theorem stepBoundary_bounded :
    (s.stepBoundary).evq.bounded ↔ s.evq.bounded := by
  unfold State.stepBoundary; try dsimp only
  simp

@[simp] theorem runningTake_bounded (m : Sample) (b : Bool) :
    (s.runningTake m b).evq.bounded ↔ s.evq.bounded := by
  unfold State.runningTake; try dsimp only
  (repeat' split) <;> simp

@[simp] theorem holdingTake_bounded (m : Sample) :
    (s.holdingTake m).evq.bounded ↔ s.evq.bounded := by
  unfold State.holdingTake; try dsimp only
  (repeat' split) <;> simp

@[simp] theorem testTake_bounded (m : Sample) (b : Bool) :
    (s.testTake m b).evq.bounded ↔ s.evq.bounded := by
  unfold State.testTake; try dsimp only
  (repeat' split) <;> simp

@[simp] theorem doubleFactor_bounded :
    (s.doubleFactor).evq.bounded ↔ s.evq.bounded := by
  unfold State.doubleFactor; try dsimp only
  (repeat' split) <;> simp

@[simp] theorem storeRecord_bounded (m : Sample) :
    (s.storeRecord m).evq.bounded ↔ s.evq.bounded := by
  unfold State.storeRecord; try dsimp only
  (repeat' split) <;> simp

@[simp] theorem traceTake_bounded (m : Sample) :
    (s.traceTake m).evq.bounded ↔ s.evq.bounded := by
  unfold State.traceTake; try dsimp only
  (repeat' split) <;> simp

@[simp] theorem halveFactor_bounded :
    (s.halveFactor).evq.bounded ↔ s.evq.bounded := by
  unfold State.halveFactor; try dsimp only
  (repeat' split) <;> simp

@[simp] theorem traceSent_bounded :
    (s.traceSent).evq.bounded ↔ s.evq.bounded := by
  unfold State.traceSent; try dsimp only
  (repeat' split) <;> simp

@[simp] theorem deliver_bounded (m : Sample) :
    (s.deliver m).evq.bounded ↔ s.evq.bounded := by
  unfold State.deliver; try dsimp only
  (repeat' split) <;> simp

@[simp] theorem sampleLoad_bounded (r : LoadResult) :
    (s.sampleLoad r).evq.bounded ↔ s.evq.bounded := by
  unfold State.sampleLoad; try dsimp only
  simp

@[simp] theorem loadConversion_bounded (c : Int) :
    (s.loadConversion c).evq.bounded ↔ s.evq.bounded := by
  unfold State.loadConversion; try dsimp only
  simp

@[simp] theorem deliverInput_bounded (i : Input) :
    (s.deliverInput i).evq.bounded ↔ s.evq.bounded := by
  unfold State.deliverInput; try dsimp only
  (repeat' split) <;> simp

@[simp] theorem takeLevel_bounded (i : Input) :
    (s.takeLevel i).evq.bounded ↔ s.evq.bounded := by
  unfold State.takeLevel; try dsimp only
  simp

@[simp] theorem rawChange_bounded (i : Input) (b : Bool) (u : Fin 1000) :
    (s.rawChange i b u).evq.bounded ↔ s.evq.bounded := by
  unfold State.rawChange; try dsimp only
  (repeat' split) <;> simp

@[simp] theorem debounceEnd_bounded (i : Input) (u : Fin 1000) :
    (s.debounceEnd i u).evq.bounded ↔ s.evq.bounded := by
  unfold State.debounceEnd; try dsimp only
  (repeat' split) <;> simp

@[simp] theorem takeDue_bounded (i : Input) (m : Instant) :
    (s.takeDue i m).evq.bounded ↔ s.evq.bounded := by
  unfold State.takeDue; try dsimp only
  (repeat' split) <;> simp

@[simp] theorem configureInput_bounded (i : Input) (v : Bool) (w : Nat) (q : Bool) :
    (s.configureInput i v w q).evq.bounded ↔ s.evq.bounded := by
  unfold State.configureInput; try dsimp only
  (repeat' split) <;> simp

@[simp] theorem setRangeMode_bounded (m : RangeMode) :
    (s.setRangeMode m).evq.bounded ↔ s.evq.bounded := by
  unfold State.setRangeMode; try dsimp only
  (repeat' split) <;> simp

@[simp] theorem seatArms_bounded (n : Bool × Bool) :
    (s.seatArms n).evq.bounded ↔ s.evq.bounded := by
  unfold State.seatArms; try dsimp only
  simp

@[simp] theorem zeroArms_bounded (n : Bool × Bool) :
    (s.zeroArms n).evq.bounded ↔ s.evq.bounded := by
  unfold State.zeroArms; try dsimp only
  simp

@[simp] theorem jogOn_bounded (v : Int) :
    (s.jogOn v).evq.bounded ↔ s.evq.bounded := by
  unfold State.jogOn; try dsimp only
  (repeat' split) <;> simp

@[simp] theorem jogOff_bounded :
    (s.jogOff).evq.bounded ↔ s.evq.bounded := by
  unfold State.jogOff; try dsimp only
  (repeat' split) <;> simp

@[simp] theorem moveOn_bounded (x v : Int) :
    (s.moveOn x v).evq.bounded ↔ s.evq.bounded := by
  unfold State.moveOn; try dsimp only
  (repeat' split) <;> simp

@[simp] theorem stopMotion_bounded :
    (s.stopMotion).evq.bounded ↔ s.evq.bounded := by
  unfold State.stopMotion; try dsimp only
  (repeat' split) <;> simp

@[simp] theorem unproveMonitor_bounded :
    (s.unproveMonitor).evq.bounded ↔ s.evq.bounded := by
  unfold State.unproveMonitor; try dsimp only
  (repeat' split) <;> simp

@[simp] theorem setFrameConfig_bounded (c : FrameConfig) :
    (s.setFrameConfig c).evq.bounded ↔ s.evq.bounded := by
  unfold State.setFrameConfig; try dsimp only
  (repeat' split) <;> simp

@[simp] theorem startSource_bounded (p : Profile) :
    (s.startSource p).evq.bounded ↔ s.evq.bounded := by
  unfold State.startSource; try dsimp only
  simp

@[simp] theorem startTest_bounded (p : Profile) :
    (s.startTest p).evq.bounded ↔ s.evq.bounded := by
  unfold State.startTest; try dsimp only
  simp

@[simp] theorem holdTest_bounded :
    (s.holdTest).evq.bounded ↔ s.evq.bounded := by
  unfold State.holdTest; try dsimp only
  simp

@[simp] theorem resumeTest_bounded :
    (s.resumeTest).evq.bounded ↔ s.evq.bounded := by
  unfold State.resumeTest; try dsimp only
  (repeat' split) <;> simp

@[simp] theorem applyNow_bounded (p : Profile) :
    (s.applyNow p).evq.bounded ↔ s.evq.bounded := by
  unfold State.applyNow; try dsimp only
  simp

end Sys2Proof.Machine
end

