-- ==== Sys2Proof/Laws/Link.lean ====
section
/-! SUPPORT. What a request does on a free link: its owning block acts once, and its one reply is made (R209, R210, R213). -/

namespace Sys2Proof.Machine

variable (s : State)

/-- The state with the reply to a request made and begun by an IDLE transmitter. -/
def State.answered (kind tag : Byte) (a : State × Answer) : State :=
  match a.2 with
  | .ack bytes => a.1.acked kind tag bytes
  | .refuse reason detail => a.1.turnedAway kind tag reason detail

@[simp] theorem openChain_lnk_slots (c : OpenCause) : (s.openChain c).lnk = s.lnk := by simp

/-- No owning block touches the link. -/
theorem act_lnk (r : Request) : (s.act r).1.lnk = s.lnk := by
  cases r <;> simp only [State.act] <;>
    first
    | rfl
    | (simp only [State.eventRead, State.inputConfig, State.frameConfig, State.calWrite, State.calRead, State.shuntConfig,
        State.loadRange, State.tareStart, State.shuntStart, State.extConfig, State.extSeat, State.extZero,
        State.extRelease, State.positionZero, State.driveOn, State.driveOff, State.tripClear, State.monitorStart,
        State.jog, State.moveTo, State.stop, State.profileSpecWrite, State.profileStepWrite, State.profileCommit,
        State.commitSpec, State.testStart, State.testHold, State.testResume, State.testAbort, State.traceConfig,
        State.traceConfigTesting]
       repeat' split
       all_goals simp)

/-- The queue of waiting commands is no block's. -/
theorem act_pending (r : Request) : (s.act r).1.pending = s.pending := by
  cases r <;> simp only [State.act] <;>
    first
    | rfl
    | (simp only [State.eventRead, State.inputConfig, State.frameConfig, State.calWrite, State.calRead, State.shuntConfig,
        State.loadRange, State.tareStart, State.shuntStart, State.extConfig, State.extSeat, State.extZero,
        State.extRelease, State.positionZero, State.driveOn, State.driveOff, State.tripClear, State.monitorStart,
        State.jog, State.moveTo, State.stop, State.profileSpecWrite, State.profileStepWrite, State.profileCommit,
        State.commitSpec, State.testStart, State.testHold, State.testResume, State.testAbort, State.traceConfig,
        State.traceConfigTesting]
       repeat' split
       all_goals simp)

/-- The transmitter begins a reply that has entered the reply slot when it is IDLE (R213). -/
theorem kick_reply (f : Frame) (h : s.lnk.replySlot = some f) :
    s.kick = { s with lnk := { s.lnk with transmitter := if s.lnk.transmitter = .idle then .reply else s.lnk.transmitter } } := by
  unfold State.kick State.chooseFrame
  split
  · rw [h]; rfl
  · rfl

/-- A request whose frame decodes, on a free link: the owning block acts, and the reply is made (R208 to R210, R213). -/
theorem request_free (r : Request) (tag : Byte) (h : s.lnk.free) (hd : decodeFrame (r.frame tag) = .request r) :
    s.request r tag = State.answered r.kind tag (s.act r) := by
  obtain ⟨dio, evq, ldc, xtc, smp, xhs, dec, tsq, res, trb, ⟨rate, rx, br, rs, ps, tx⟩, pending⟩ := s
  obtain ⟨h1, h2⟩ := h
  dsimp only at h1 h2
  subst h1 h2
  have ha := act_lnk ⟨dio, evq, ldc, xtc, smp, xhs, dec, tsq, res, trb, ⟨rate, rx, br, none, none, tx⟩, pending⟩ r
  simp only [State.request, State.frameArrives, State.dispatchWaiting, State.dispatch, State.decodeAndAct, hd]
  rw [kick_reply _ _ rfl]
  unfold State.answered State.reply Request.frame
  generalize State.act r _ = a at ha
  obtain ⟨t, ans⟩ := a
  cases ans <;> simp [State.acked, State.turnedAway, Lnk.replying]

end Sys2Proof.Machine
end

