-- ==== Sys2Proof/Tests/Slice0.lean ====
section
/-! SUPPORT. Tests: ill-formed commands, request frames written out by hand, worked examples of the spec, and for each
statement with hypotheses a witness that meets them, clause by clause. Expected values are the spec's or worked out by hand. -/

namespace Sys2Proof.Tests

open Sys2Proof Sys2Proof.Machine

-- One test after the other: many at once each take a thread of their own, and a compile runs short of memory.
set_option Elab.async false

/-! ### Small states -/

/-- The part after power-on with ESTOP, GUARD, both grips and DRIVE_READY asserted, its event queue emptied. -/
def idle : State :=
  { State.powerOn 0 0b0100110011#10 false false State.reset with evq := { entries := [], overflow := false } }

def word (x : Int) : Word := BitVec.ofInt 32 x

def code (x : Int) : BitVec 24 := BitVec.ofInt 24 x

/-- The WIDE table of section 1.10. -/
def wideTable : List CalPoint :=
  [⟨-300000, -3000000⟩, ⟨100000, 1000000⟩, ⟨400000, 4010000⟩, ⟨700000, 7030000⟩]

/-- The FINE table of section 1.10. -/
def fineTable : List CalPoint := [⟨-8000000, -571400⟩, ⟨0, 0⟩, ⟨8000000, 571400⟩]

/-- A settled load channel with the tables and the tare of section 1.10, and the monitor proven. -/
def ready : State :=
  { idle with
    ldc := { idle.ldc with wideTable := wideTable, fineTable := fineTable, tare := 1240, settle := 0 }
    xhs := { idle.xhs with monitorProven := true } }

def inFine (s : State) : State := { s with ldc := { s.ldc with range := .fine } }

/-- The chain CLOSED with the servo in a mode. -/
def closed (m : ServoMode) : State :=
  { ready with dec := { ready.dec with chain := .closed }, xhs := { ready.xhs with mode := m } }

def profileSpec : ProfileSpec :=
  { s0 := 80425, l0 := 50000, lc := 400000, eNominal := 205000, specimen := [], cast := [], plan := .xhead,
    fitLower := 10000, fitUpper := 30000, offset := 2000, yieldDrop := 50, transient := 100, yieldLimit := 30000,
    yieldEnd := 60000, armLoad := 500000, breakStep := 20, breakFloor := 10, testOverload := 6300000,
    returnAfter := true, returnSpeed := 100000, traceBase := 4 }

def stepOf (mode : StepMode) (release : Bool) : ProfileStep :=
  { mode := mode, rate := 100, transition := 200, count := 1, cond1 := ⟨1, word 5000⟩, cond2 := ⟨0, 0⟩, release := release }

def profile : Profile := { spec := profileSpec, steps := [stepOf .posRate false, stepOf .strainRate true] }

/-- A state with a test state, the profile active and step 0 in force. -/
def inTest (t : TestState) (s : State) : State :=
  { s with tsq := { s.tsq with state := t, step := some 0, active := some profile } }

def running : State := inTest .running (closed .step)

def held (c : HoldCause) : State := inTest (.holding c) (closed .still)

def back : State := inTest .returning (closed .return)

/-- A measurement sample with a load and the stress and strain given. -/
def sample (index : Nat) (load stress strain : Int) : Sample :=
  { index := BitVec.ofNat 32 index, position := 0, load := some load, stress := some stress, strain := some strain,
    source := .extAvg, step := some 0, held := false, clamped := false, handover := false, forced := false }

def arming (which : Arm) (t : ArmState) (s : State) : State := s.setArm which { s.arm which with state := t, enabled := true }

/-- The state a step reaches, or the state itself. -/
def next (c : Instr) (s : State) : State :=
  match exec c s with
  | .next t => t
  | .fault _ => s
  | .refused _ => s

/-- A running test with the sources of a strain plan EXT and the arms in given states. -/
def joined (a b : ArmState) (source : StrainSource) : State :=
  let s := arming .a a (arming .b b running)
  { s with smp := { s.smp with
      source := source, composed := 1
      last := some ⟨sample 3 1000 12 40, { elongA := some 20, elongB := some 22, corrected := 5, unclamped := some 40 }⟩ } }

/-! ### Well-formed commands -/

theorem test_wf_ping : Instr.wellFormed (.ping 1 (List.replicate 236 0)) = true ∧
    Instr.wellFormed (.ping 1 (List.replicate 237 0)) = false := by decide +kernel

theorem test_wf_calWrite : Instr.wellFormed (.calWrite 1 0 (List.replicate 29 (0, 0))) = true ∧
    Instr.wellFormed (.calWrite 1 0 (List.replicate 30 (0, 0))) = false := by decide

/-- The spec layout with texts of a given number of character bytes. -/
def specFields (specimen cast : Nat) : SpecFields :=
  { presence := 0, s0 := word 80425, l0 := word 50000, lc := word 400000, eNominal := word 205000, specimenLength := 3,
    specimen := List.replicate specimen 0x42, castLength := 2, cast := List.replicate cast 0x41, plan := 0,
    fitLower := word 10000, fitUpper := word 30000, offset := 0, yieldDrop := 0, transient := 0, yieldLimit := 0,
    yieldEnd := 0, armLoad := word 500000, breakStep := 0, breakFloor := 0, testOverload := 0, returnAfter := 1,
    returnSpeed := word 100000, traceBase := 4, stepCount := 2 }

theorem test_wf_specWrite : Instr.wellFormed (.profileSpecWrite 1 (specFields 16 12)) = true ∧
    Instr.wellFormed (.profileSpecWrite 1 (specFields 15 12)) = false ∧
    Instr.wellFormed (.profileSpecWrite 1 (specFields 16 13)) = false := by decide

theorem test_wf_unknownKind : Instr.wellFormed (.unknownKindRequest 0x24 1 []) = true ∧
    Instr.wellFormed (.unknownKindRequest 0x23 1 []) = false ∧
    Instr.wellFormed (.unknownKindRequest 0x24 1 (List.replicate 241 0)) = false := by decide +kernel

theorem test_wf_requests : Request.wellFormed (.ping (List.replicate 237 0)) = false ∧
    Request.wellFormed (.calWrite 0 (List.replicate 30 (0, 0))) = false ∧
    Request.wellFormed (.profileSpecWrite (specFields 16 11)) = false := by decide +kernel

/-! ### Frames written out by hand (R203, R204, R217) -/

/-- The check value of the CRC over the characters 1 to 9. -/
theorem test_crc : crcOf [0x31, 0x32, 0x33, 0x34, 0x35, 0x36, 0x37, 0x38, 0x39] = 0x29B1#16 := by decide +kernel

/-- TARE with tag 0x10, byte by byte, is taken by the load channel and answered with NO_CAL (kind 0x0C, reason 10). -/
theorem test_bytes_of_tare :
    ([0xC5, 0x00, 0x0C, 0x10, 0x9B, 0xC0].foldl (fun s b => next (.receiveByte b false) s) idle).lnk.replySlot =
      some ⟨0xFE, 0x10, [0, 0, 0, 0, 0x0C, 10, 0, 0]⟩ := by decide +kernel

theorem test_decode_jog : decodeFrame ⟨0x17, 9, [0x00, 0x00, 0x4E, 0x20]⟩ = .request (.jog 20000) := by decide

theorem test_decode_loadRange : decodeFrame ⟨0x0B, 1, [2]⟩ = .request (.loadRange 2) := by decide

theorem test_decode_extSeat : decodeFrame ⟨0x0F, 1, [3]⟩ = .request (.extSeat 3) := by decide

theorem test_decode_inputConfig : decodeFrame ⟨0x06, 1, [9, 1, 20, 1]⟩ = .request (.inputConfig 9 1 20 1) := by decide

theorem test_decode_driveOn : decodeFrame ⟨0x13, 1, []⟩ = .request .driveOn := by decide

theorem test_decode_profileRead : decodeFrame ⟨0x1D, 1, [0, 0xFF]⟩ = .request (.profileRead 0 0xFF) := by decide

theorem test_decode_testStart : decodeFrame ⟨0x1E, 1, []⟩ = .request .testStart := by decide

theorem test_decode_traceConfig : decodeFrame ⟨0x23, 1, [1, 64]⟩ = .request (.traceConfig 1 64) := by decide

theorem test_decode_calWrite : decodeFrame ⟨0x08, 1, [1, 1, 0xFF, 0xFF, 0xFF, 0xFE, 0x00, 0x00, 0x01, 0x00]⟩ =
    .request (.calWrite 1 [(word (-2), 256)]) := by decide

theorem test_decode_bad : decodeFrame ⟨0x17, 9, [0, 0, 0]⟩ = .badLength ∧ decodeFrame ⟨0x24, 9, []⟩ = .badKind ∧
    decodeFrame ⟨0x00, 9, []⟩ = .badKind := by decide

theorem test_no_table_bits : decodeTableWord 8 5 = none ∧ State.withFetchWord State.reset 8 5 = State.reset := by decide

/-! ### Worked examples of the spec -/

theorem test_reset_is_power_on : State.powerOn 0 0 false false State.reset = State.reset := by decide +kernel

/-- Section 1.10, example 1. -/
theorem test_load_example1 : (ready.convertLoad 250001).2 = ⟨some 2503770, false, false⟩ ∧
    (ready.convertLoad 750000).2 = ⟨some 7532093, false, false⟩ ∧
    (ready.convertLoad 750000).1.dec.trips = [.overload] ∧
    (ready.convertLoad (-350000)).2 = ⟨some (-3501240), false, false⟩ := by decide +kernel

/-- Section 1.10, example 2: the up-switch of index 101 and the held loads of 102 and 103. -/
theorem test_load_example2 :
    let t := (inFine running).convertLoad 7600000
    t.2 = ⟨some 541590, false, false⟩ ∧ t.1.ldc.range = .wide ∧ t.1.ldc.settle = 2 ∧
    (t.1.convertLoad 56100).2 = ⟨some 541590, true, false⟩ := by decide +kernel

/-- Section 1.10, example 3: the deviation of the shunt check at its last conversion. -/
theorem test_shunt_example3 :
    let s := { inFine ready with ldc := { (inFine ready).ldc with
      fineShunt := ⟨300000, 300⟩, shunt := some ⟨.releaseSettle, 7, 20010, 4819730⟩ } }
    (s.convertLoad 0).1.ldc.shunt = none ∧
    ((s.convertLoad 0).1.evq.entries.map (·.event)).getLast? = some (.shuntDone .pass .fine (some (-17))) := by
  decide +kernel

theorem test_zero_capture :
    let s := (arming .b .zeroing ready).setArm .b
      { (arming .b .zeroing ready).xtc.armB with capture := some ⟨7, 6859987⟩ }
    (next (.extConversion .b (code 980005)) s).xtc.armB.zeroCode = some 979999 ∧
    (next (.extConversion .b (code 980005)) s).smp.source = .extB := by decide +kernel

theorem test_monitor_start : (next (.monitorTest 1) idle).xhs.monitor = some ⟨0, 0, false, none⟩ := by decide +kernel

theorem test_position : ({ idle with xhs := { idle.xhs with count := 0xFFFFFFFF } } : State).position = -5 := by decide

/-- R66, R67: a legal transition moves the count by 1, its reverse moves it back, four in one direction move it by 4, and one
with both channels changed trips. -/
theorem test_encoder :
    let sampled (a b : Bool) (s : State) : State := next (.encoderTransition a b false) s
    let once := (sampled true false idle).xhs.count
    (once = 1 ∨ once = 0xFFFFFFFF) ∧ (sampled false false (sampled true false idle)).xhs.count = 0 ∧
    (sampled false false (sampled false true (sampled true true (sampled true false idle)))).xhs.count = 4 * once ∧
    (sampled true true idle).dec.trips = [.encoder] := by
  unfold next exec execEncoderTransition State.encoderSample stepsUp
  generalize Config.upPhase = up
  cases up <;> decide +kernel

/-- A servo expiry in JOG at 20,000 µm/min from rest: the demand runs 20,000 / 12,000 units, which truncates to 1, so the
command is 20,000 + 600 × 1 / 10, and the word is 20,060 × 32,767 / 600,000 rounded. -/
theorem test_jog_expiry :
    let s := { closed .jog with xhs := { (closed .jog).xhs with effRate := 20000 } }
    (next .servoExpiry s).xhs.velocity = 20060 ∧ (next .servoExpiry s).xhs.speedWord = 1096 ∧
    (next .servoExpiry s).xhs.modelVelocity = 502 := by decide +kernel

theorem test_estop_opens : (next (.debounceEnd .estop 0)
      { closed .jog with dio := { (closed .jog).dio with inputs := { (closed .jog).dio.inputs with
          estop := { (closed .jog).dio.inputs.estop with raw := false, pendingSince := some ⟨word (-1), 0⟩ } } } }).evq.entries.map
      (·.event) = [.trip .estop, .chain .opened, .jogStop .chain] := by decide +kernel

theorem test_halt_ends_test : (next .halt running).tsq.state = .ended .halt ∧
    (next .halt running).res.items.record.final = some false := by decide +kernel

/-- Section 11.10, example 1: the second request waits, the third is discarded. -/
theorem test_link_slots :
    let busy := { ready with lnk := { ready.lnk with transmitter := .trace ⟨sample 0 0 0 0, false, 1⟩ } }
    let s := next (.stop 0x12) (next (.readNow 0x11) (next (.tare 0x10) busy))
    s.lnk.replySlot.map (·.tag) = some 0x10 ∧ s.lnk.receiveSlot.map (·.tag) = some 0x11 := by decide +kernel

/-- R159: a fall of 20 % of Fmax is a break; the fracture sample is the one before it. -/
theorem test_break :
    let s := { running with
      tsq := { running.tsq with prevLoaded := some ⟨7, 1000000⟩ }
      res := { running.res with items := { running.res.items with record :=
        { running.res.items.record with fmax := some ⟨1000000, 7⟩ } } } }
    (s.testTake (sample 8 800000 0 0) false).tsq.state = .returning ∧
    (s.testTake (sample 8 800000 0 0) false).tsq.fracture = some 7 ∧
    (s.testTake (sample 8 800001 0 0) false).tsq.breakFound = false := by decide +kernel

/-- R192: in a test no record is due from the wrap of the index on. -/
theorem test_trace_wrap :
    let s := { running with trb := { running.trb with streaming := true, factor := 4, lastIndex := some 4294967292 } }
    s.recordDue (sample 0 0 0 0) = false ∧ s.recordDue (sample 4 0 0 0) = false ∧
    ({ s with trb := { s.trb with lastIndex := none } } : State).recordDue (sample 0 0 0 0) = true := by decide +kernel

theorem test_trace_doubles :
    let r : TraceRecord := ⟨sample 0 0 0 0, false, 4⟩
    let s := { idle with trb := { idle.trb with streaming := true, base := 4, factor := 4, buffer := List.replicate 383 r } }
    (s.traceTake (sample 20004 0 0 0)).trb.factor = 8 ∧ (s.traceTake (sample 20005 0 0 0)).trb.factor = 4 := by
  decide +kernel

theorem test_commit :
    let k : StagedStep := { record := ⟨0, 3000, 0, 1, 2, 5000, 0, 0, 0⟩, written := true }
    let s := { idle with tsq := { idle.tsq with staged :=
      { spec := some (stagedSpecOf (specFields 16 12)), slots := idle.tsq.staged.slots.set 0 k } } }
    (next (.profileCommit 1) s).lnk.replySlot.map (·.payload) = some [0, 0, 0, 0, 0x1C, 3, 1, 0] ∧
    (next (.profileCommit 1) { s with tsq := { s.tsq with staged :=
      { s.tsq.staged with slots := s.tsq.staged.slots.set 1 k } } }).tsq.active.isSome = true := by decide +kernel

/-! ### Witnesses: a state and operands that meet the hypotheses of each statement, clause by clause -/

/-- A running test with a command waiting. -/
def waiting (c : Instr) (s : State) : State := { s with pending := [c] }

theorem running_chainLaw : ChainLaw (waiting .servoExpiry running) where
  servo := by decide
  word := by decide
  velocity := by decide
  test := by decide
  trips := by decide
  nodup := by decide
  firstOut := by decide
  guard := by decide
  stepMode := by decide
  returnMode := by decide

/-- Both arms ZEROED under EXT_AVG outside a test, with an exclusion by its seat input waiting. -/
def averaging : State :=
  let s := arming .a .zeroed (arming .b .zeroed ready)
  waiting (.debounceEnd .extASeat 0) { s with smp := { s.smp with source := .extAvg } }

theorem averaging_sourceLaw : SourceLaw averaging := fun _ => ⟨by decide +kernel, by decide +kernel⟩

theorem witness_SourceLaw : averaging.testing = false ∧ ∃ t, step averaging = .next t := ⟨by decide +kernel, _, rfl⟩

theorem witness_StepTakesFrontCommand : State.reset.pending = [] := rfl

theorem witness_StepKeepsChainLaw :
    ChainLaw (waiting .servoExpiry running) ∧ ∃ t, step (waiting .servoExpiry running) = .next t :=
  ⟨running_chainLaw, _, rfl⟩

/-- A streaming running test with a load conversion waiting, a full event queue and a buffer of records of rising index. -/
def full (records : Nat) : State :=
  { waiting (.loadConversion 0) running with
    evq := { entries := List.replicate 32 ⟨.tripCleared, 0⟩, overflow := false }
    trb := { running.trb with
      streaming := true, buffer := (List.range records).map fun i => ⟨sample i 0 0 0, false, 1⟩, lastIndex := some 511 } }

theorem witness_StepKeepsBounds :
    QueueLaw (full 512) ∧ TraceLaw (full 512) ∧ DebounceLaw (full 512) ∧ (∃ t, step (full 512) = .next t) ∧
    (full 3).testing = true ∧
    List.Pairwise (fun a b : TraceRecord => a.sample.index.toNat < b.sample.index.toNat) (full 3).trb.buffer ∧
    (full 3).trb.lastIndex = some 511 ∧ (∀ r ∈ (full 3).trb.buffer, r.sample.index.toNat ≤ (511 : Word).toNat) ∧
    ∃ t, step (full 3) = .next t :=
  ⟨⟨by decide +kernel, by decide +kernel⟩,
    ⟨by decide +kernel, by decide +kernel, by decide +kernel, (by decide : profileSpec.traceBase.toNat ∈ decimationBases), trivial⟩,
    ⟨by decide +kernel, by decide +kernel, by decide +kernel, by decide +kernel, by decide +kernel⟩,
    ⟨_, rfl⟩, by decide +kernel, by decide +kernel, by decide +kernel, by decide +kernel, _, rfl⟩

theorem witness_RequestFramesDecode :
    Request.wellFormed (.ping (List.replicate 236 0)) = true ∧
    Request.wellFormed (.calWrite 1 (List.replicate 29 (0, 0))) = true ∧
    Request.wellFormed (.profileSpecWrite (specFields 16 12)) = true := by decide +kernel

theorem witness_FrameBytesReceived :
    (List.replicate 240 (0 : Byte)).length ≤ 240 ∧ idle.lnk.inBreak = false ∧ idle.lnk.receiver = .hunt ∧
    (0 : Byte) ++ (0 : Byte) ≠ Frame.crc ⟨0x0C, 0x10, []⟩ := by decide +kernel

/-- A receiver position, outside a break. -/
def receiving (p : Receiver) : State := { idle with lnk := { idle.lnk with receiver := p } }

theorem witness_ReceiverPositions :
    ([.hunt, .length, .kind 240, .tag 0 1, .tag 240 1, .payload 1 1 1 [], .payload 240 1 1 (List.replicate 239 0),
      .crcHigh 0 1 1 [], .crcLow 0 1 1 [] 0] : List Receiver).all
        (fun p => (receiving p).lnk.inBreak == false && (receiving p).lnk.receiver == p) = true ∧
    (0 : Byte) ++ (0 : Byte) ≠ crcOf [0, 1, 1] ∧
    ({ idle with lnk := { idle.lnk with inBreak := true } } : State).lnk.inBreak = true ∧ idle.lnk.inBreak = false := by
  decide +kernel

/-- R207 and notes/assumptions/7.md: a BREAK_END with no break to end keeps a partial frame. -/
theorem test_break_end : next .breakEnd (receiving (.kind 4)) = receiving (.kind 4) ∧
    (next .breakEnd { receiving .hunt with lnk := { idle.lnk with inBreak := true } }).lnk.inBreak = false := by decide +kernel

theorem idle_free : idle.lnk.free := ⟨rfl, rfl⟩

theorem ready_free : ready.lnk.free := ⟨rfl, rfl⟩

theorem closed_free (m : ServoMode) : (closed m).lnk.free := ⟨rfl, rfl⟩

theorem running_free : running.lnk.free := ⟨rfl, rfl⟩

theorem held_free (c : HoldCause) : (held c).lnk.free := ⟨rfl, rfl⟩

theorem back_free : back.lnk.free := ⟨rfl, rfl⟩

theorem witness_RequestGetsOneReply : idle.lnk.free ∧ Request.wellFormed (.jog 20000) = true :=
  ⟨idle_free, by decide⟩

/-- A link that sends a reply of a kind, with a frame in the receive slot. -/
def sending (kind : Byte) (waits : Option Frame) : State :=
  { idle with lnk := { idle.lnk with transmitter := .reply, replySlot := some ⟨kind, 1, []⟩, receiveSlot := waits } }

theorem witness_RequestsTurnedAwayByLink :
    ((sending 0x82 none).lnk.receiveSlot = none ∧ (sending 0x82 none).lnk.replySlot = some ⟨0x82, 1, []⟩ ∧
      (sending 0x82 none).lnk.transmitter ≠ .idle) ∧
    (sending 0x82 (some ⟨2, 2, []⟩)).lnk.receiveSlot = some ⟨2, 2, []⟩ ∧ idle.lnk.free ∧
    (¬ (1 ≤ (0x24 : Byte).toNat ∧ (0x24 : Byte).toNat ≤ 0x23)) ∧ (¬ (1 ≤ (0 : Byte).toNat ∧ (0 : Byte).toNat ≤ 0x23)) ∧
    ((0x17, 4) ∈ [(0x02, 0), (0x17, 4)] ∧ (0x17, 3) ∉ [(0x02, 0), (0x17, 4)]) ∧
    ((List.replicate 236 (0 : Byte)).length ≤ 236 ∧ ¬ ((List.replicate 237 (0 : Byte)).length ≤ 236)) ∧
    (List.replicate 16 (0 : Byte)).length = 8 * (2 : Byte).toNat :=
  ⟨by decide +kernel, by decide +kernel, idle_free, by decide, by decide, by decide, by decide +kernel, by decide⟩

/-- Lengths on either side of the right one: CAL_WRITE without its count byte, with a short and a whole point, and PING. -/
theorem test_lengths : decodeFrame ⟨0x08, 1, [1]⟩ = .badLength ∧ decodeFrame ⟨0x08, 1, [1, 1, 0, 0, 0, 1]⟩ = .badLength ∧
    decodeFrame ⟨0x08, 1, [1, 0]⟩ = .request (.calWrite 1 []) ∧ decodeFrame ⟨0x17, 9, [0, 0, 0]⟩ = .badLength ∧
    decodeFrame ⟨0x01, 1, List.replicate 237 0⟩ = .badLength := by decide +kernel

/-- A link that sends the trace frame of the oldest record, with a reply waiting or not, and more records or not. -/
def tracing (reply : Option Frame) (more : List TraceRecord) : State :=
  { idle with
    lnk := { idle.lnk with transmitter := .trace ⟨sample 0 0 0 0, false, 1⟩, replySlot := reply }
    trb := { idle.trb with buffer := ⟨sample 0 0 0 0, false, 1⟩ :: more, inFlight := .oldest } }

/-- A link that still sends the frame of a record that TEST_START has discarded. -/
def discarded (records : List TraceRecord) : State :=
  { tracing none [] with trb := { (tracing none []).trb with buffer := records, inFlight := .discarded } }

theorem witness_FrameEnds :
    (sending 0x85 none).lnk.transmitter = .reply ∧ (sending 0x85 none).lnk.replySlot = some ⟨0x85, 1, []⟩ ∧
    (sending 0x82 (some ⟨2, 2, []⟩)).lnk.receiveSlot = some ⟨2, 2, []⟩ ∧ (0x82 : Byte) ≠ 0x85 ∧
    (sending 0x82 none).lnk.receiveSlot = none ∧
    (tracing none []).lnk.transmitter = .trace ⟨sample 0 0 0 0, false, 1⟩ ∧ (tracing none []).trb.inFlight = .oldest ∧
    (discarded []).lnk.transmitter = .trace ⟨sample 0 0 0 0, false, 1⟩ ∧ (discarded []).trb.inFlight = .discarded := by
  decide +kernel

/-- R195, R199: the end of the frame of a discarded record leaves the new records of the test as they are. -/
theorem test_discarded_frame_end :
    (next .traceFrameEnd (discarded [⟨sample 4 0 0 0, false, 1⟩])).trb.buffer = [⟨sample 4 0 0 0, false, 1⟩] ∧
    (next .traceFrameEnd (discarded [⟨sample 4 0 0 0, false, 1⟩])).trb.inFlight = .oldest ∧
    (next .traceFrameEnd (discarded [])).lnk.transmitter = .idle := by decide +kernel

/-- The trace payload of a record with load 1,000 and stress 12, HELD, with the gap mark and factor 4 (R214, R220). -/
theorem test_trace_frame :
    TraceRecord.frame ⟨{ sample 7 1000 12 (-1) with held := true }, true, 4⟩ =
      ⟨0xF1, 0, [0, 0, 0, 7, 0, 0, 0, 0, 0, 0, 0x03, 0xE8, 0, 0, 0, 12, 0xFF, 0xFF, 0xFF, 0xFF, 1, 0, 0xF1, 4]⟩ := by
  decide +kernel

theorem witness_RestartTakesEffect :
    (sending 0x85 none).lnk.transmitter = .reply ∧ (sending 0x85 none).lnk.replySlot = some ⟨0x85, 1, []⟩ ∧
    (⟨0x85, 1, []⟩ : Frame).kind = 0x85 := by decide +kernel

/-- A result record with texts of the given lengths and a modulus. -/
def figures (specimen cast : Nat) : ResultRecord :=
  { ResultRecord.empty with
    specimen := some (List.replicate specimen 0x42), cast := some (List.replicate cast 0x41)
    e := some ⟨205000, .rejected, 20⟩, rel := some (-1), final := some false }

theorem witness_ReadsAnswer :
    idle.lnk.free ∧ (List.replicate 236 (0 : Byte)).length ≤ 236 ∧
    ((figures 16 12).specimen = some (List.replicate 16 0x42) ∧ (List.replicate 16 (0x42 : Byte)).length ≤ 16 ∧
      (figures 16 12).cast = some (List.replicate 12 0x41) ∧ (List.replicate 12 (0x41 : Byte)).length ≤ 12) :=
  ⟨idle_free, by decide +kernel⟩

/-- R222: E with its basis and n, ReL and the final mark at their offsets, and the presence word. -/
theorem test_result_bytes :
    let b := (figures 2 0).bytes
    b.length = 100 ∧ b.take 6 = [0x40, 0x47, 2, 0x42, 0x42, 0] ∧
    (b.drop 32).take 9 = [0x00, 0x03, 0x20, 0xC8, 3, 0, 0, 0, 20] ∧ (b.drop 66).take 4 = [0xFF, 0xFF, 0xFF, 0xFF] ∧
    (b.drop 94) = [0, 0, 0, 0, 0, 2] := by decide +kernel

theorem witness_ReadNowLayout :
    idle.lnk.free ∧ (joined .zeroed .opened .extA).lnk.free ∧ idle.smp.last = none ∧
    (joined .zeroed .opened .extA).smp.last.isSome = true ∧ tripCode .estop = BitVec.ofNat 8 (0 + 1) ∧
    tripCode .halt = BitVec.ofNat 8 (9 + 1) ∧ (List.replicate 8 true).length ≤ 8 :=
  ⟨idle_free, ⟨rfl, rfl⟩, by decide +kernel⟩

/-- A state with a number of events queued. -/
def queued (n : Nat) : State :=
  { idle with evq := { entries := List.replicate n ⟨.tripCleared, 0⟩, overflow := true } }

theorem witness_EventPutAndTick : (queued 31).evq.entries.length < 32 ∧ 32 ≤ (queued 32).evq.entries.length := by
  decide +kernel

theorem witness_EventReadTakesOldest : (queued 9).lnk.free ∧ 8 < (9 : Byte).toNat ∧ (8 : Byte).toNat ≤ 8 ∧
    (queued 9).evq.entries = List.replicate 8 ⟨.tripCleared, 0⟩ ++ [⟨.tripCleared, 0⟩] ∧
    (List.replicate 8 (⟨.tripCleared, 0⟩ : Entry)).length = min (8 : Byte).toNat (queued 9).evq.entries.length :=
  ⟨⟨rfl, rfl⟩, by decide +kernel⟩

/-- AUX with a debounce time, a pending change that began at part time 0, and a part time. -/
def aux (debounce : Nat) (pendingSince : Option Instant) (now : Nat) : State :=
  { idle with dio := { idle.dio with
      partTime := BitVec.ofNat 32 now
      inputs := { idle.dio.inputs with aux := { idle.dio.inputs.aux with debounce, pendingSince } } } }

theorem witness_InputDebounce :
    false = ((aux 10 none 0).dio.inputs.get .aux).level ∧
    (true ≠ ((aux 10 none 0).dio.inputs.get .aux).level ∧ ((aux 10 none 0).dio.inputs.get .aux).debounce ≠ 0) ∧
    ((aux 0 none 0).dio.inputs.get .aux).debounce = 0 ∧ ((aux 10 none 0).dio.inputs.get .aux).pendingSince = none ∧
    ((aux 10 (some ⟨0, 0⟩) 9).dio.partTime - 0).toNat * 1000 + (max (0 : Fin 1000) 999).val < 10 * 1000 + 0 ∧
    10 * 1000 + 0 ≤ ((aux 10 (some ⟨0, 0⟩) 10).dio.partTime - 0).toNat * 1000 + (max (0 : Fin 1000) 0).val := by
  decide +kernel

/-- The chain CLOSED in STILL with a velocity command. -/
def moving (v : Int) : State := { closed .still with xhs := { (closed .still).xhs with velocity := v } }

theorem witness_InputDelivery :
    idle.dec.chain = .opened ∧ (running.dec.chain = .closed ∧ running.testing = true) ∧
    ((moving (-6001)).dec.chain = .closed ∧
      (moving (-6001)).xhs.config.guardSpeed < ((moving (-6001)).xhs.velocity.natAbs : Int)) ∧
    ((moving 6000).dec.chain = .closed ∧ (moving 6000).testing = false ∧
      ((moving 6000).xhs.velocity.natAbs : Int) ≤ (moving 6000).xhs.config.guardSpeed) := by decide +kernel

theorem witness_InputConfigWrites :
    idle.lnk.free ∧ (closed .still).lnk.free ∧ (closed .still).dec.chain = .closed ∧ idle.dec.chain = .opened ∧
    9 < (10 : Byte).toNat ∧ (9 : Byte).toNat = inputIndex .aux ∧ (1 : Byte).toNat ≤ 1 ∧ (0 : Byte).toNat = inputIndex .estop ∧
    ((aux 10 (some ⟨0, 0⟩) 0).dec.chain = .opened ∧
      ((aux 10 (some ⟨0, 0⟩) 0).dio.inputs.get .aux).pendingSince = some ⟨0, 0⟩ ∧ idle.dio.inputs.aux.pendingSince = none) :=
  ⟨idle_free, closed_free _, by decide +kernel⟩

/-- R99: a debounce time of 0 takes a pending change at once, whatever the time within the millisecond, and one of 2 ms does
not take a change of the present millisecond. -/
theorem test_config_takes_due :
    (next (.inputConfig 1 9 0 0 0) (aux 10 (some ⟨0, 0⟩) 0)).dio.inputs.aux.level = !idle.dio.inputs.aux.level ∧
    (next (.inputConfig 1 9 0 0 0) (aux 10 (some ⟨0, 0⟩) 0)).dio.configs = 1 := by
  simp only [next, exec, execInputConfig, State.request]
  decide +kernel

theorem witness_TripLatchAndOpening :
    TripCause.estop ∈ State.reset.dec.trips ∧ TripCause.halt ∉ State.reset.dec.trips ∧ State.reset.dec.chain = .opened ∧
    TripCause.halt ∉ running.dec.trips ∧ running.dec.chain = .closed := by decide +kernel

theorem witness_DriveOnAndOff :
    idle.lnk.free ∧ (closed .still).lnk.free ∧ running.lnk.free ∧ (closed .still).dec.chain = .closed ∧
    (idle.dec.chain = .opened ∧ idle.ldc.shunt = none ∧ idle.xhs.monitor = none) ∧
    (next (.monitorTest 1) idle).xhs.monitor ≠ none ∧
    (idle.xhs.monitorProven = false ∧ ready.xhs.monitorProven = true) ∧ ready.ldc.table ready.ldc.range ≠ [] ∧
    running.testing = true ∧ (closed .still).testing = false :=
  ⟨idle_free, closed_free _, running_free, by decide +kernel⟩

/-- The chain OPEN with a trip set. -/
def tripped (causes : List TripCause) : State :=
  { ready with dec := { ready.dec with trips := causes, firstOut := causes.head?, overloadPresent := true } }

theorem witness_TripClearJudges :
    (tripped []).lnk.free ∧ (tripped [.encoder]).dec.trips ≠ [] ∧ TripCause.overload ∈ (tripped [.overload]).dec.trips ∧
    (tripped [.overload]).dec.overloadPresent = true := ⟨⟨rfl, rfl⟩, by decide +kernel⟩

theorem witness_LoadInterpolation :
    (2 : Int) ≠ 0 ∧ 2 * ((5 : Int) - 2 * roundDiv 5 2).natAbs = (2 : Int).natAbs ∧
    List.Pairwise (fun a b : CalPoint => a.code < b.code) wideTable ∧
    (wideTable[2]? = some ⟨400000, 4010000⟩ ∧ wideTable[2 + 1]? = some ⟨700000, 7030000⟩ ∧ 2 + 2 = wideTable.length ∧
      (700000 : Int) ≤ 700000) ∧
    (wideTable[0]? = some ⟨-300000, -3000000⟩ ∧ (-300001 : Int) < -300000) ∧ ((-300000 : Int) ≤ -300000) := by decide +kernel

theorem witness_LoadRangeSwitch :
    ready.lnk.free ∧ running.lnk.free ∧ running.testing = true ∧ ready.testing = false ∧ ready.ldc.range ≠ .fine :=
  ⟨ready_free, running_free, by decide +kernel⟩

/-- A tare in progress. -/
def taring (taken : Nat) : State := { ready with ldc := { ready.ldc with tareProgress := some ⟨taken, 0⟩ } }

theorem witness_CalibrationTables :
    ready.lnk.free ∧ 2 + 8 * (List.replicate 29 ((0 : Word), (0 : Word))).length ≤ 240 ∧
    (closed .still).dec.chain = .closed ∧ ((taring 0).dec.chain = .opened ∧ (taring 0).ldc.tareProgress ≠ none) ∧
    (ready.dec.chain = .opened ∧ ready.ldc.tareProgress = none ∧ ready.ldc.shunt = none) ∧
    ((1 : Byte).toNat ≤ 1 ∧ (2 ≤ 11 ∧ (11 : Nat) ≤ 11) ∧
      List.Pairwise (fun a b : CalPoint => a.code < b.code) [⟨-8388608, -8000000⟩, ⟨8388607, 8000000⟩]) ∧
    ¬ ((2 : Byte).toNat ≤ 1) ∧ 1 < (2 : Byte).toNat := ⟨ready_free, by decide +kernel⟩

/-- A shunt check in progress in FINE. -/
def checking (phase : ShuntPhase) (taken : Nat) : State :=
  { inFine ready with ldc := { (inFine ready).ldc with shunt := some ⟨phase, taken, 0, 0⟩ } }

theorem witness_ShuntAndTareRequests :
    ready.lnk.free ∧ (checking .baseline 0).ldc.shunt ≠ none ∧ running.testing = true ∧
    (ready.testing = false ∧ ready.dec.chain = .opened ∧ ready.ldc.tareProgress = none ∧ ready.ldc.shunt = none ∧
      ready.ldc.table ready.ldc.range ≠ []) ∧
    (taring 0).ldc.tareProgress ≠ none ∧ idle.ldc.table idle.ldc.range = [] ∧ (closed .still).dec.chain = .closed :=
  ⟨ready_free, by decide +kernel⟩

/-- A running test with both change marks set. -/
def taken : State := { running with smp := { running.smp with handoverMark := true, forcedMark := true } }

theorem witness_LoadConversionSample :
    0 < idle.ldc.settle ∧
    (ready.ldc.settle = 0 ∧ ready.ldc.shunt = none ∧ (code (-8388608)).toInt = -8388608 ∧ (code 8388607).toInt = 8388607 ∧
      ready.ldc.range ≠ .fine ∧ ready.ldc.table ready.ldc.range ≠ []) ∧
    ((inFine ready).ldc.mode = .auto ∧ (inFine ready).ldc.range = .fine) ∧
    (checking .shuntSettle 0).ldc.shunt = some ⟨.shuntSettle, 0, 0, 0⟩ ∧
    ({ ready with ldc := { ready.ldc with wideTable := [] } } : State).ldc.table .wide = [] ∧
    grossLoad (ready.ldc.table ready.ldc.range) (code 250001).toInt = some 2505010 ∧
    ((ready.convertLoad 750000).2.load = some 7532093 ∧ (ready.convertLoad 750000).2.held = false ∧
      ready.xhs.config.frameOverload < ((7532093 : Int).natAbs : Int)) ∧
    (running.testing = true ∧ running.tsq.active = some profile ∧ profile.spec.testOverload = 6300000) ∧
    (taken.tsq.state.sampling = true ∧ taken.smp.handoverMark = true ∧ taken.smp.forcedMark = true) := by decide +kernel

/-- R51 to R55: the sample of code 250001 in a running test carries the stress 2503770 × 1000 / 80425 rounded, both marks,
which are then clear, and the step in force. -/
theorem test_sample_fields :
    let t := next (.loadConversion (code 250001)) taken
    t.smp.last.map (fun l => (l.sample.stress, l.sample.step, l.sample.handover, l.sample.forced)) =
      some (some 31132, some 0, true, true) ∧ t.smp.handoverMark = false ∧ t.smp.forcedMark = false := by decide +kernel

/-- WIDE with a down count. -/
def counting (down : Nat) : State := { ready with ldc := { ready.ldc with down := down } }

theorem witness_OrdinaryConversion :
    (ready.ldc.settle = 0 ∧ ready.ldc.shunt = none ∧ ready.ldc.tareProgress = none) ∧
    ((inFine ready).ldc.mode = .auto ∧ 7549746 ≤ (code 7549746).toInt.natAbs ∧
      (grossLoad ((inFine ready).ldc.table .fine) (code 7549746).toInt).isSome = true) ∧
    ¬ ((code 629146).toInt.natAbs ≤ 629145) ∧
    ((code (-629145)).toInt.natAbs ≤ 629145 ∧ (counting 48).testing = false ∧ (counting 48).ldc.fineTable ≠ [] ∧
      (counting 48).ldc.range = .wide ∧ (counting 48).ldc.down < 49 ∧ 49 ≤ (counting 49).ldc.down ∧
      (grossLoad ((counting 48).ldc.table .wide) (code (-629145)).toInt).isSome = true) ∧
    ChainLaw (waiting .servoExpiry running) := ⟨by decide +kernel, by decide +kernel, by decide +kernel, by decide +kernel,
      running_chainLaw⟩

/-- A settling channel in WIDE with the mode FINE kept. -/
def settling (n : Nat) : State := { ready with ldc := { ready.ldc with settle := n, mode := .fine } }

/-- FINE under AUTO with a tare and a shunt check in its baseline both in progress. -/
def twoInFine : State :=
  { inFine (taring 3) with ldc := { (inFine (taring 3)).ldc with shunt := some ⟨.baseline, 3, 0, 0⟩, shuntEn := false } }

theorem witness_OrdinaryConversion_kept :
    ((settling 1).ldc.settle = 1 ∧ (settling 1).ldc.mode = .fine ∧ (settling 1).ldc.range = .wide ∧
      (settling 2).ldc.settle = 2 ∧ (settling 1).ldc.shunt = none) ∧
    ({ ready with ldc := { ready.ldc with wideTable := [] } } : State).ldc.table .wide = [] ∧
    (twoInFine.ldc.settle = 0 ∧ twoInFine.ldc.mode = .auto ∧ twoInFine.ldc.range = .fine ∧
      twoInFine.ldc.shunt = some ⟨.baseline, 3, 0, 0⟩ ∧ twoInFine.ldc.tareProgress = some ⟨3, 0⟩ ∧
      7549746 ≤ (code (-7549746)).toInt.natAbs ∧ (code (-7549746)).toInt ≠ -8388608 ∧
      (grossLoad (twoInFine.ldc.table .fine) (code (-7549746)).toInt).isSome = true) ∧
    ((checking .shuntMeasure 0).ldc.mode = .auto ∧ (checking .shuntMeasure 0).ldc.range = .fine) ∧
    ((code (-8388608)).toInt = -8388608 ∧ ready.ldc.range = .wide ∧ (taring 3).ldc.tareProgress = some ⟨3, 0⟩) := by
  decide +kernel

/-- R6, R25: the settle count runs out and a kept FINE mode takes effect. R8, R17, R22: a saturated code that does not switch
reports OVERLOAD and then abandons the tare. -/
theorem test_conversion_outcomes :
    (next (.loadConversion 0) (settling 1)).ldc.range = .fine ∧ (next (.loadConversion 0) (settling 1)).ldc.settle = 2 ∧
    (next (.loadConversion 0) (settling 2)).ldc.settle = 1 ∧
    (next (.loadConversion (code 8388607)) (taring 3)).evq.entries.map (·.event) =
      [.trip .overload, .tareDone false 1240] ∧
    (next (.loadConversion (code 8388607)) (taring 3)).ldc.lastGood = some 8000000 := by decide +kernel

theorem witness_TareAndShuntConversions :
    (14 ≠ 15 ∧ (taring 14).ldc.tareProgress = some ⟨14, 0⟩ ∧ (code 7549745).toInt.natAbs < 7549746 ∧
      (grossLoad ((taring 14).ldc.table .wide) (code 7549745).toInt).isSome = true) ∧
    ((taring 15).ldc.settle = 0 ∧ (taring 15).ldc.shunt = none ∧ (taring 15).ldc.tareProgress = some ⟨15, 0⟩ ∧
      (taring 0).ldc.tareProgress = some ⟨0, 0⟩ ∧
      grossLoad ((taring 0).ldc.table (taring 0).ldc.range) (code 250001).toInt = some 2505010) ∧
    ((checking .baseline 15).ldc.settle = 0 ∧ (checking .baseline 15).ldc.tareProgress = none ∧
      (checking .baseline 15).ldc.shunt = some ⟨.baseline, 15, 0, 0⟩ ∧
      (checking .shuntSettle 7).ldc.shunt = some ⟨.shuntSettle, 7, 0, 0⟩ ∧
      (checking .shuntMeasure 15).ldc.shunt = some ⟨.shuntMeasure, 15, 0, 0⟩ ∧
      (checking .releaseSettle 7).ldc.shunt = some ⟨.releaseSettle, 7, 0, 0⟩) ∧
    ((code 7549745).toInt.natAbs < 7549746 ∧
      (grossLoad ((checking .baseline 0).ldc.table .fine) (code 7549745).toInt).isSome = true) ∧
    (checking .releaseSettle 7).evq.entries.length < 32 ∧
    ((code 8388606).toInt ≠ 8388607 ∧ (code (-8388607)).toInt ≠ -8388608 ∧ (taring 15).ldc.range = .wide ∧
      (grossLoad ((taring 15).ldc.table .wide) (code 8388606).toInt).isSome = true) ∧
    ((inFine (settling 0)).ldc.mode = .fine ∧ (inFine (settling 0)).ldc.range = .fine ∧
      7549746 ≤ (code 8388606).toInt.natAbs ∧
      (grossLoad ((inFine (settling 0)).ldc.table .fine) (code 8388606).toInt).isSome = true) := by decide +kernel

/-- R10, R16: in WIDE and under a locked FINE mode a tare takes an unsaturated code above the up-switch level. -/
theorem test_tare_high_code :
    (next (.loadConversion (code 7549746)) (taring 0)).ldc.tareProgress.map (·.taken) = some 1 ∧
    (let s := inFine (settling 0)
     (next (.loadConversion (code 8388606)) { s with ldc := { s.ldc with tareProgress := some ⟨0, 0⟩ } }).ldc.tareProgress.map
       (·.taken)) = some 1 := by decide +kernel

/-- R17: the 16th conversion sets the tare to the mean of the 16 gross loads and puts TARE_DONE(OK). -/
theorem test_tare_ok :
    (next (.loadConversion (code 250001)) (taring 15)).ldc.tare = 156563 ∧
    (next (.loadConversion (code 250001)) (taring 15)).evq.entries.map (·.event) = [.tareDone true 156563] := by
  decide +kernel

/-- EXT_CONFIG fields at the limits of section 2.1. -/
def armFields (enabled : Byte) : ArmConfigFields := ⟨enabled, word 16777216, word 1, word 100⟩

theorem witness_ExtConfigWrites :
    idle.lnk.free ∧ (arming .b .seated idle).xtc.armB.state ≠ .opened ∧
    (idle.xtc.armA.state = .opened ∧ idle.xtc.armB.state = .opened) ∧ ¬ ((2 : Byte).toNat ≤ 1) ∧
    ((armFields 1).scale.toInt ≤ 16777216 ∧ 1 ≤ (armFields 1).span.toInt ∧ 100 ≤ (armFields 1).slip.toInt ∧
      50 ≤ (50 : Half).toNat ∧ (950 : Half).toNat ≤ 950 ∧ (2000 : Half).toNat ≤ 2000) := ⟨idle_free, by decide +kernel⟩

theorem witness_ExtSeatOneArm :
    (arming .a .opened ready).lnk.free ∧ (arming .a .opened ready).testing = false ∧ (1 : Byte).toNat = 1 ∧
    ((arming .a .opened ready).arm .a).enabled = true ∧ ((arming .a .opened ready).arm .a).state = .opened ∧
    ((arming .b (.fault .seatTimeout) ready).arm .b).state = .fault .seatTimeout := ⟨⟨rfl, rfl⟩, by decide +kernel⟩

/-- An arm enabled, with a state and a solenoid. -/
def seating (which : Arm) (t : ArmState) (v : Solenoid) (s : State) : State :=
  s.setArm which { s.arm which with state := t, solenoid := v, enabled := true }

/-- Arm A in FAULT and its seat closed, arm B SEATED with its solenoid at HOLD. -/
def halfSeated : State :=
  seating .a (.fault .seatTimeout) .off (seating .b .seated (.hold ⟨true, 300, 700⟩)
    (ready.setInput .extASeat { ready.dio.inputs.extASeat with level := true }))

theorem witness_ExtSeatRefusalsAndBoth :
    running.lnk.free ∧ running.testing = true ∧ ¬ (1 ≤ (0 : Byte).toNat ∧ (0 : Byte).toNat ≤ 3) ∧
    ready.xtc.armA.enabled = false ∧
    (let s := arming .a .seated ready
     s.xtc.armA.enabled = true ∧ s.xtc.armA.state.seatable = false ∧ s.testing = false ∧ s.smp.source = sourceOfSet s.averagingSet ∧
     s.smp.sourceOffset = 0) ∧
    (let s := arming .a .opened (arming .b .opened ready)
     s.testing = false ∧ s.xtc.armA.enabled = true ∧ s.xtc.armB.enabled = true ∧ s.xtc.armA.state = .opened ∧
     s.xtc.armB.state = .opened ∧ s.xtc.armA.solenoid = .off ∧ s.xtc.armB.solenoid = .off ∧ s.seatClosed .a = false ∧
     s.seatClosed .b = false ∧ s.smp.source = .none ∧ s.smp.sourceOffset = 0) ∧
    (halfSeated.testing = false ∧ halfSeated.xtc.armA.enabled = true ∧ halfSeated.xtc.armB.enabled = true ∧
      halfSeated.seatClosed .a = true ∧ (halfSeated.arm .a).state.seatable = true ∧
      (halfSeated.arm .b).state.seatable = false ∧ 1 ≤ (3 : Byte).toNat ∧ (3 : Byte).toNat ≤ 3) :=
  ⟨running_free, by decide +kernel⟩

/-- R34 to R36: EXT_SEAT of both arms seats the arm in FAULT at once and re-strikes the solenoid of the SEATED one. -/
theorem test_seat_one_of_both :
    let t := next (.extSeat 1 3) halfSeated
    t.xtc.armA.state = .seated ∧ t.xtc.armB.state = .seated ∧ t.xtc.armB.solenoid = .pullIn 200 ∧
    t.evq.entries.map (·.event) = [.arm .a .seated] := by decide +kernel

theorem witness_ExtZeroOneArm :
    (arming .a .seated ready).lnk.free ∧ (1 : Byte).toNat = 1 ∧ running.testing = true ∧
    ((ready.arm .a).state ≠ .seated ∧ (ready.arm .a).state ≠ .zeroing ∧ (ready.arm .a).state ≠ .zeroed) ∧
    ((arming .a .seated ready).arm .a).state = .seated ∧ ((arming .b .zeroing ready).arm .b).state = .zeroing ∧
    (ready.testing = false ∧ ¬ (1 ≤ (0 : Byte).toNat ∧ (0 : Byte).toNat ≤ 3) ∧ ¬ (1 ≤ (4 : Byte).toNat ∧ (4 : Byte).toNat ≤ 3)) ∧
    ((3 : Byte).toNat ≤ 3 ∧ (ready.arm .a).state = .opened ∧ (ready.arm .b).state = .opened) ∧
    (running.lnk.replySlot = none ∧ (0 : Byte).toNat < 1 ∧ 3 < (4 : Byte).toNat) :=
  ⟨⟨rfl, rfl⟩, by decide +kernel⟩

/-- R38: in a test state the refusal is STATE for every arm code. -/
theorem test_zero_in_test :
    [(0 : Byte), 1, 3, 4].map (fun select => (next (.extZero 1 select) running).lnk.replySlot.map (·.payload.drop 4)) =
      List.replicate 4 (some [0x10, refusalCode .state, 0, 0]) := by decide +kernel

/-- R30, R38: EXT_ZERO of both arms starts a capture on each, arm A before arm B, and a ZEROING arm puts no event. -/
theorem test_zero_both :
    let s := arming .a .zeroing (arming .b .seated ready)
    let t := next (.extZero 1 3) s
    t.xtc.armA.capture = some ⟨0, 0⟩ ∧ t.xtc.armB.capture = some ⟨0, 0⟩ ∧
    t.evq.entries.map (·.event) = [.arm .b .zeroing] ∧
    (next (.extZero 1 3) (arming .a .seated s)).evq.entries.map (·.event) = [.arm .a .zeroing, .arm .b .zeroing] := by
  decide +kernel

theorem witness_ExtReleaseOneArm :
    (arming .a .seated ready).lnk.free ∧ ¬ (1 ≤ (4 : Byte).toNat ∧ (4 : Byte).toNat ≤ 3) ∧
    (arming .a .seated ready).testing = false ∧ (2 : Byte).toNat = 2 ∧
    ((joined .zeroed .zeroed .extAvg).testing = true ∧ 1 ≤ (3 : Byte).toNat ∧ (3 : Byte).toNat ≤ 3) :=
  ⟨⟨rfl, rfl⟩, by decide +kernel⟩

/-- R43: a release on request moves an arm in FAULT, a protective one does not; both leave an OPEN arm alone. -/
theorem test_release_both :
    let s := arming .a (.fault .seatTimeout) (arming .b .seated ready)
    (s.releaseStart true true true).evq.entries.map (·.event) = [.arm .a .opened, .arm .b .opened] ∧
    (s.releaseStart true true false).evq.entries.map (·.event) = [.arm .b .opened] ∧
    (ready.releaseStart true true true).evq = ready.evq := by decide +kernel

/-- R60: a release of both arms in a test hands an extensometer source over to XHEAD with the HANDOVER mark. -/
theorem test_handover :
    let t := next (.extRelease 1 3) (joined .zeroed .opened .extA)
    t.smp.source = .xhead ∧ t.smp.handoverMark = true ∧ t.smp.forcedMark = false ∧
    t.evq.entries.map (·.event) = [.arm .a .opened, .source .xhead .handover] := by decide +kernel

/-- An arm with a solenoid and a timer. -/
def driving (which : Arm) (t : ArmState) (v : Solenoid) (timer : Option Word) (s : State) : State :=
  s.setArm which { s.arm which with state := t, solenoid := v, timer := timer }

theorem witness_SeatInputsAndArmTimers :
    (ready.testing = false ∧ ((arming .a .seating ready).arm .a).state = .seating ∧
      ((arming .a .zeroed ready).arm .a).state = .zeroed ∧ ((arming .a .releasing ready).arm .a).state = .releasing ∧
      (ready.arm .a).state.zeroable = false ∧ (ready.arm .a).state ≠ .releasing) ∧
    ((driving .a .seating (.pullIn 0) (some 0) ready).arm .a).solenoid = .pullIn ready.dio.partTime ∧
    ((driving .a .seating (.pullIn 0) (some 0) ready).arm .a).timer = some ready.dio.partTime ∧
    ((driving .b .seated (.hold ⟨true, 300, 700⟩) none ready).arm .b).solenoid = .hold ⟨true, 300, 700⟩ ∧
    (((driving .b .releasing .off (some 0) ready).arm .b).state = .releasing ∧
      ((driving .b .releasing .off (some 0) ready).arm .b).timer = some ready.dio.partTime ∧
      (driving .b .releasing .off (some 0) ready).testing = false) ∧
    (running.testing = true ∧ ((driving .a .releasing .off (some 0) running).arm .a).state = .releasing ∧
      ((driving .a .releasing .off (some 0) running).arm .a).timer = some running.dio.partTime) ∧
    (ready.arm .a).solenoid ≠ .pullIn ready.dio.partTime ∧ (ready.arm .a).state ≠ .seating ∧
    (∀ t : ArmState, t ∈ [.seating, .seated, .zeroing, .zeroed, .releasing] →
      (arming .b t running).testing = true ∧ ((arming .b t running).arm .b).state = t) := by decide +kernel

/-- R31: in a test state too, the seat of a SEATED arm opening excludes it, and that of a RELEASING arm opens it. -/
theorem test_seat_in_test :
    ((arming .a .seated running).seatChanged .a false).xtc.armA.state = .excluded .seatLost ∧
    ((arming .a .releasing running).seatChanged .a false).xtc.armA.state = .opened ∧
    ((arming .a .zeroed running).seatChanged .a true).xtc.armA.state = .zeroed := by decide +kernel

/-- A ZEROED arm with a configuration and a last elongation. -/
def zeroed (s : State) : State :=
  s.setArm .a { s.arm .a with
    state := .zeroed, zeroCode := some 0, scale := some 1048576, span := some 1000, slipThreshold := some 100,
    lastElong := some 950 }

theorem witness_ExtConversion :
    ((ready.arm .a).state ≠ .zeroing ∧ (ready.arm .a).state ≠ .zeroed) ∧
    ((code 8388607).toInt = 8388607 ∧ (code (-8388608)).toInt = -8388608) ∧
    (let s := ready.setArm .a { ready.arm .a with state := .zeroing, capture := some ⟨7, 0⟩ }
     (s.arm .a).state = .zeroing ∧ (s.arm .a).capture = some ⟨7, 0⟩) ∧
    (let r := (zeroed running).arm .a
     r.state = .zeroed ∧ r.zeroCode = some 0 ∧ r.scale = some 1048576 ∧ r.span = some 1000 ∧ r.slipThreshold = some 100) ∧
    (zeroed ready).tsq.state.sampling = false ∧ (zeroed running).tsq.state.sampling = true ∧
    (roundDiv (((code 1000).toInt - 0) * 1048576) 1048576 = 1000 ∧ ((1000 : Int) - 950).natAbs ≤ 100) ∧
    (100 < ((1051 : Int) - 950).natAbs) ∧ ((1001 : Int) - 950).natAbs ≤ 100 := by decide +kernel

/-- A running test under EXT_A whose last sample has no strain. -/
def unstrained : State :=
  let s := joined .zeroed .opened .extA
  { s with smp := { s.smp with
      last := some ⟨{ sample 3 1000 12 40 with strain := none },
        { elongA := none, elongB := none, corrected := 5, unclamped := none }⟩ } }

theorem witness_ExclusionAndJoin :
    (joined .zeroed .zeroed .extAvg).testing = true ∧ ((joined .zeroed .zeroed .extAvg).arm .a).state = .zeroed ∧
    ((joined .zeroed .zeroed .extAvg).arm (otherArm .a)).state = .zeroed ∧
    ((joined .zeroed .opened .extA).smp.source = .extA ∧ ((joined .zeroed .opened .extA).arm (otherArm .a)).state ≠ .zeroed) ∧
    (joined .zeroed .opened .xhead).smp.source = .xhead ∧
    ((joined .opened .opened .extA).averagingSet = (false, false) ∧ (joined .opened .zeroed .extAvg).averagingSet = (false, true) ∧
      (joined .zeroed .opened .extAvg).averagingSet = (true, false) ∧ (joined .opened .zeroed .extAvg).testing = true) ∧
    (let s := joined .zeroed .zeroed .extAvg
     s.smp.composedAtStart < s.smp.composed ∧ s.tsq.active = some profile ∧
     (rawStrain (some profile) s.smp.zeroRef { elongA := some 20, elongB := some 22, corrected := 5, unclamped := some 40 }
       .extAvg).isSome = true ∧
     (rawStrain (some profile) s.smp.zeroRef { elongA := some 20, elongB := some 22, corrected := 5, unclamped := some 40 }
       .xhead).isSome = true ∧
     s.smp.last.any (fun l => l.sample.strain.isSome) = true) ∧
    ((joined .seated .zeroed .extB).testing = true ∧ ((joined .seated .zeroed .extB).arm .a).state ≠ .zeroed) ∧
    ((joined .zeroed .zeroed .extB).smp.source = .extB ∧ ((joined .zeroed .zeroed .extB).arm .b).state = .zeroed) ∧
    ((joined .zeroed .opened .none).smp.source = .none ∧ running.smp.composed ≤ running.smp.composedAtStart ∧
      running.smp.last = none) ∧
    (unstrained.smp.composedAtStart < unstrained.smp.composed ∧
      unstrained.smp.last.any (fun l => l.sample.strain.isNone) = true) := by decide +kernel

/-- R41, R59, R61: an exclusion of a SEATED arm changes no source, and that of the last arm of EXT_A hands over to XHEAD. -/
theorem test_exclusion_in_test :
    ((joined .seated .zeroed .extB).excludeArm .a .seatLost).smp.source = .extB ∧
    ((joined .zeroed .zeroed .extAvg).excludeArm .a .slip).smp.source = .extB ∧
    ((joined .zeroed .opened .extA).excludeArm .a .slip).smp.source = .xhead ∧
    ((joined .zeroed .opened .extA).excludeArm .a .slip).smp.forcedMark = true := by decide +kernel

theorem witness_SourceAndRawStrain :
    let full : Basis := { elongA := some 20, elongB := some 22, corrected := 5, unclamped := none }
    (full.elongA = some 20 ∧ full.elongB = some 22) ∧
    ({ full with elongB := none }.elongA = some 20 ∧ { full with elongB := none }.elongB = none) ∧
    ({ full with elongA := none }.elongA = none ∧ { full with elongA := none }.elongB = some 22) := by decide

/-- R55: each source reads its own elongation, and a source without it has no raw strain. -/
theorem test_raw_strain :
    let only : Basis := { elongA := some 20, elongB := none, corrected := 40, unclamped := none }
    rawStrain (some profile) 0 only .extA = some 4 ∧ rawStrain (some profile) 0 only .extB = none ∧
    rawStrain (some profile) 0 only .extAvg = none ∧ rawStrain (some profile) 0 only .xhead = some 10 := by decide +kernel

theorem witness_EncoderAndPosition :
    idle.xhs.chanA = false ∧ idle.xhs.chanB = false ∧ (true = idle.xhs.chanA ↔ false ≠ idle.xhs.chanB) ∧
    ready.lnk.free ∧ running.testing = true ∧ (closed .jog).xhs.mode = .jog ∧
    (ready.testing = false ∧ ready.xhs.mode ≠ .jog ∧ ready.xhs.mode ≠ .move) :=
  ⟨by decide +kernel, by decide +kernel, by decide +kernel, ready_free, by decide +kernel⟩

/-- A monitor test that has just begun. -/
def testingMonitor : State := { idle with xhs := { idle.xhs with monitor := some ⟨0, 0, false, none⟩ } }

/-- A proven monitor with a test at a progress. -/
def monitoring (k : MonitorTest) : State := { ready with xhs := { ready.xhs with monitor := some k } }

theorem witness_MonitorTestProves :
    idle.lnk.free ∧ (closed .still).dec.chain = .closed ∧
    (inTest .running idle).dec.chain = .opened ∧ (inTest .running idle).testing = true ∧
    (idle.dec.chain = .opened ∧ idle.testing = false ∧ idle.ldc.shunt = none ∧ idle.xhs.monitor = none) ∧
    testingMonitor.xhs.monitor ≠ none ∧
    (testingMonitor.xhs.mode = .disabled ∧ testingMonitor.xhs.monitor = some ⟨0, 0, false, none⟩ ∧
      0 ≤ testingMonitor.xhs.config.trackTolerance) ∧
    (∀ k : MonitorTest, k ∈ [⟨7, 2, false, none⟩, ⟨8, 8, true, some true⟩, ⟨15, 1, true, some true⟩, ⟨15, 1, true, none⟩] →
      (monitoring k).xhs.mode = .disabled ∧ (monitoring k).xhs.monitor = some k) := ⟨idle_free, by decide +kernel⟩

/-- R90, R91: half 1 ends with its outcome, and a test whose first half did not reach 3 fails at the 16th expiry. -/
theorem test_monitor_halves :
    (next .servoExpiry (monitoring ⟨7, 2, false, none⟩)).xhs.monitor = some ⟨8, 3, true, some true⟩ ∧
    (next .servoExpiry (monitoring ⟨8, 8, true, some true⟩)).xhs.monitor = some ⟨9, 1, false, some true⟩ ∧
    (next .servoExpiry (monitoring ⟨15, 7, true, some false⟩)).evq.entries.map (·.event) = [.monitorDone false] ∧
    (next .servoExpiry (monitoring ⟨15, 7, true, some false⟩)).xhs.monitorProven = false := by decide +kernel

theorem witness_JogMoveStop :
    (closed .jog).lnk.free ∧ (closed .jog).testing = false ∧ (closed .jog).dec.chain = .closed ∧
    ((word 600000).toInt ≤ 600000 ∧ -600000 ≤ (word (-600000)).toInt ∧ ¬ ((word 600001).toInt ≤ 600000)) ∧
    (closed .still).xhs.mode = .still ∧ (closed .move).xhs.mode = .move ∧
    ({ closed .jog with xhs := { (closed .jog).xhs with jogRenewal := some 0 } } : State).xhs.jogRenewal =
      some (closed .jog).dio.partTime ∧
    (1 ≤ (word 1).toInt ∧ (closed .jog).xhs.config.softLower ≤ (word (-12000000)).toInt ∧
      (word 12000000).toInt ≤ (closed .jog).xhs.config.softUpper) ∧
    running.testing = true ∧ (ready.testing = false ∧ ready.dec.chain = .opened ∧ ready.xhs.mode = .disabled) ∧
    ((closed .jog).xhs.jogRenewal ≠ some (closed .jog).dio.partTime) :=
  ⟨closed_free _, by decide +kernel⟩

theorem witness_FrameConfigWrites :
    idle.lnk.free ∧ (closed .still).dec.chain = .closed ∧ idle.dec.chain = .opened ∧ idle.xhs.config.inRanges = true ∧
    ({ idle.xhs.config with maxSpeed := 600000, tau := 1000 } : FrameConfig).inRanges = true ∧
    ({ idle.xhs.config with maxSpeed := 600001 } : FrameConfig).inRanges = false ∧ idle.xhs.monitor = none ∧
    testingMonitor.xhs.monitor ≠ none ∧ idle.tsq.active = none := ⟨idle_free, by decide +kernel⟩

/-- A strain step with a demand, followed on the last sample of `joined`. -/
def straining : State :=
  let s := joined .zeroed .zeroed .extAvg
  { s with xhs := { s.xhs with controlClass := .strain, rateAcc := .value 80000 } }

theorem witness_ServoExpiryLaws :
    (idle.xhs.mode = .disabled ∧ idle.xhs.monitor = none) ∧
    ([closed .still, closed .jog, straining].all fun s =>
      !s.xhs.escapeUp && !s.xhs.escapeDown && decide (s.xhs.config.softLower < s.position) &&
      decide (s.position < s.xhs.config.softUpper) &&
      decide (((Int.tdiv s.xhs.modelAcc 12000 - s.position).natAbs : Int) ≤ s.xhs.config.trackTolerance)) = true ∧
    (closed .still).xhs.mode = .still ∧ (closed .jog).xhs.mode = .jog ∧
    (straining.xhs.mode = .step ∧ straining.xhs.controlClass = .strain ∧ straining.xhs.transition = none ∧
      straining.xhs.rateAcc = .value 80000 ∧ straining.smp.last.bind (·.sample.strain) = some 40) := by decide +kernel

/-- A step of a control class with a demand accumulator, under the escape of the upper limit. -/
def following (c : ControlClass) (demand : RateDemand) : State :=
  { straining with xhs := { straining.xhs with controlClass := c, rateAcc := demand, escapeUp := true } }

/-- A move or return with a target. -/
def going (s : State) (target : Int) : State := { s with xhs := { s.xhs with target := some ⟨target, 1000⟩ } }

/-- The crosshead at a position in units of 5, with the command of a mode. -/
def standing (s : State) (count : Int) : State := { s with xhs := { s.xhs with count := word count } }

theorem witness_ServoExpiryLaws_stages :
    ((closed .still).xhs.mode ≠ .disabled ∧ ({ closed .still with xhs := { (closed .still).xhs with trackCount := 2 } } :
      State).formCommand.1.xhs.trackCount = 2) ∧
    ((following .stress (.waiting 0)).xhs.mode = .step ∧ (following .stress (.waiting 0)).xhs.rateAcc = .waiting 0 ∧
      (following .stress (.waiting 0)).smp.last.bind (·.sample.stress) = some 12 ∧ 0 < (following .stress (.waiting 0)).smp.composed ∧
      (following .strain (.waiting 1)).smp.composed ≤ 1 ∧ running.smp.last = none) ∧
    ((going (closed .move) 20).xhs.target = some ⟨20, 1000⟩ ∧ (going (closed .move) 20).xhs.mode = .move ∧
      (going back 0).xhs.mode = .return ∧ (going back 0).tsq.state = .returning ∧
      (Int.tdiv (going back 0).xhs.posAcc 12000 = 0 ∧ ((standing back 2).position - 0).natAbs ≤ 10)) ∧
    ((following .strain (.value 80000)).xhs.escapeUp = true ∧ (0 : Int) < 1 ∧ ¬ ((0 : Int) < 0)) ∧
    ((standing (closed .jog) 2400000).xhs.config.softUpper ≤ (standing (closed .jog) 2400000).position ∧
      (standing running (-2400000)).position ≤ (standing running (-2400000)).xhs.config.softLower ∧
      running.xhs.mode = .step ∧ running.tsq.state = .running ∧ back.xhs.mode = .return) := by decide +kernel

/-- R86, R87: a move at 1,000 µm/min stays short of its target, and arrives within 10 µm of it. -/
theorem test_move :
    (next .servoExpiry (going (closed .move) 20)).xhs.posAcc = 1000 ∧
    (next .servoExpiry (going (closed .move) 0)).evq.entries.map (·.event) = [.moveDone true] ∧
    (next .servoExpiry (going back 0)).tsq.state = .ended .break := by decide +kernel

/-- R78, R80, R82: a waiting demand takes the quantity of a later sample; the escape rests the demand on it; a step beyond the
upper soft limit goes to HOLDING(SOFT). -/
theorem test_step_expiry :
    ({ following .stress (.waiting 0) with xhs := { (following .stress (.waiting 0)).xhs with velocity := 0 } } :
      State).formCommand.1.xhs.rateAcc = .value 24000 ∧
    (State.applyEscape (following .strain (.value 90000), 5)).1.xhs.rateAcc = .value 80000 ∧
    (next .servoExpiry (standing { running with xhs := { running.xhs with posAcc := 12000 * 12000500, modelAcc := 12000 *
      12000000 } } 2400000)).tsq.state = .holding .soft := by decide +kernel

/-- R89, R120: the third far comparison trips TRACKING. -/
theorem test_tracking :
    let s := standing { closed .still with xhs := { (closed .still).xhs with trackCount := 2 } } 4001
    (next .servoExpiry s).dec.trips = [.tracking] ∧ (next .servoExpiry s).xhs.mode = .disabled ∧
    (next .servoExpiry (standing { closed .still with xhs := { (closed .still).xhs with trackCount := 2 } } 4000)).xhs.trackCount = 0
    := by decide +kernel

theorem witness_VelocityWithinLimits :
    0 ≤ running.xhs.config.maxSpeed ∧ 0 ≤ running.xhs.config.guardSpeed ∧
    ({ running with dec := { running.dec with guardMode := true } } : State).dec.guardMode = true := by decide +kernel

/-- A staged copy of two written steps. -/
def staged : StagedCopy :=
  let k : StagedStep := { record := ⟨0, 3000, 0, 1, 2, 5000, 0, 0, 0⟩, written := true }
  { spec := some (stagedSpecOf (specFields 16 12)), slots := (idle.tsq.staged.slots.set 0 k).set 1 k }

def withStaged (s : State) : State := { s with tsq := { s.tsq with staged := staged } }

theorem witness_ProfileWrites :
    idle.lnk.free ∧ (specFields 16 12).wellFormed = true ∧ 16 < (17 : Byte).toNat ∧ 12 < (13 : Byte).toNat ∧
    ((specFields 16 12).specimenLength.toNat ≤ 16 ∧ (specFields 16 12).castLength.toNat ≤ 12) ∧
    ((withStaged idle).tsq.staged.spec.map (·.stepCount) = some (specFields 16 12).stepCount ∧ idle.tsq.staged.spec = none) ∧
    11 < (12 : Byte).toNat ∧ (11 : Byte).toNat < 12 ∧ (2 : Byte).toNat ≤ 2 := ⟨idle_free, by decide +kernel⟩

theorem witness_ValidationAndForming :
    staged.validate 6300000 (stagedSpecOf (specFields 16 12)) = none := by decide +kernel

/-- R134, R135: the first failure is in the spec part, in field order, before an unwritten step. -/
theorem test_first_failure :
    idle.tsq.staged.validate 6300000 { stagedSpecOf (specFields 16 12) with s0 := 0, plan := 2 } = some (255, 1) ∧
    idle.tsq.staged.validate 6300000 { stagedSpecOf (specFields 16 12) with stepCount := 13 } = some (255, 22) ∧
    staged.validate 6300000 { stagedSpecOf (specFields 16 12) with stepCount := 3 } = some (2, 0) := by decide +kernel

/-- The profile of the staged copy, active in a running test with a step in force. -/
def lockedTest (steps : List ProfileStep) : State :=
  let p := staged.form 6300000 (stagedSpecOf (specFields 16 12))
  let s := withStaged running
  { s with tsq := { s.tsq with active := some { p with steps := steps } } }

theorem witness_ProfileCommitOutcomes :
    back.lnk.free ∧ back.tsq.state = .returning ∧ (idle.tsq.state ≠ .returning ∧ idle.tsq.staged.spec = none) ∧
    ((withStaged idle).tsq.staged.spec = some (stagedSpecOf (specFields 16 12)) ∧
      idle.tsq.staged.validate 6300000 (stagedSpecOf (specFields 16 12)) = some (0, 0)) ∧
    (withStaged idle).testing = false ∧
    (let p := staged.form 6300000 (stagedSpecOf (specFields 16 12))
     (lockedTest p.steps).tsq.state.sampling = true ∧ (lockedTest p.steps).tsq.step = some 0 ∧
     (lockedTest p.steps).tsq.active = some p ∧ 0 < p.steps.length ∧ 0 < profile.steps.length ∧
     p.steps.take (0 + 1) ≠ profile.steps.take (0 + 1)) := ⟨back_free, by decide +kernel⟩

/-- R137: the rate of step 0 is the first difference. -/
theorem test_locked :
    let p := staged.form 6300000 (stagedSpecOf (specFields 16 12))
    let s := lockedTest ((p.steps.take 1).map (fun k => { k with rate := 1, release := true }))
    (next (.profileCommit 1) s).lnk.replySlot.map (·.payload.drop 4) = some [0x1C, refusalCode .locked, 0, 2] := by
  decide +kernel

theorem witness_ProfileReadAnswers :
    (withStaged running).lnk.free ∧ 2 < (3 : Byte).toNat ∧ ((12 : Byte) ≠ 0xFF ∧ 11 < (12 : Byte).toNat) ∧
    (11 : Byte).toNat ≤ 11 ∧ idle.tsq.staged.spec = none ∧ (withStaged running).tsq.staged.spec.isSome = true ∧
    (1 : Byte).toNat = 1 ∧ (withStaged running).tsq.active = some profile ∧ (withStaged running).tsq.pendingCopy = none ∧
    profile.steps.length ≤ (2 : Byte).toNat ∧ profile.steps[(1 : Byte).toNat]? = some (stepOf .strainRate true) ∧
    ((specFields 16 12).specimen.length = 16 ∧ (specFields 16 12).cast.length = 12) ∧
    ((stagedSpecOf (specFields 16 12)).specimen.length ≤ 16 ∧ (stagedSpecOf (specFields 16 12)).cast.length ≤ 12) ∧
    (profile.spec.specimen.length ≤ 16 ∧ profile.spec.cast.length ≤ 12) := ⟨⟨rfl, rfl⟩, by decide +kernel⟩

/-- R141, R222: step 1 of the active copy, written out from the step layout of section 11.8. -/
theorem test_profile_read_step :
    (next (.profileRead 1 1 1) running).lnk.replySlot.map (·.payload.drop 4) =
      some [1, 1, 0, 0, 0, 100, 0, 200, 1, 1, 0, 0, 0x13, 0x88, 0, 0, 0, 0, 0, 1, 1] := by decide +kernel

/-- The chain CLOSED in a mode, with the profile active in IDLE. -/
def armed (m : ServoMode) : State := inTest .idle (closed m)

theorem witness_TestStart :
    (armed .still).lnk.free ∧ running.testing = true ∧ (idle.testing = false ∧ idle.tsq.active = none) ∧
    ((inTest .idle ready).tsq.active = some profile ∧ (inTest .idle ready).dec.chain = .opened) ∧
    ((armed .still).dec.chain = .closed ∧ (armed .still).asserted .gripUpper = true ∧
      (armed .still).asserted .gripLower = true ∧ (armed .still).ldc.table (armed .still).ldc.range ≠ [] ∧
      (armed .still).ldc.tareProgress = none ∧ (armed .still).xhs.monitor = none ∧ profile.spec.plan = .xhead) ∧
    (armed .jog).xhs.mode = .jog ∧ State.reset.asserted .gripUpper = false ∧
    profile.steps[0]? = some (stepOf .posRate false) := ⟨⟨rfl, rfl⟩, by decide +kernel⟩

theorem witness_TestHoldResumeAbort :
    running.lnk.free ∧ (held .request).lnk.free ∧ running.tsq.state = .running ∧ (held .soft).tsq.state = .holding .soft ∧
    ((held .request).tsq.state = .holding .request ∧ (held .request).currentStep = some (stepOf .posRate false)) ∧
    back.tsq.state = .returning ∧ idle.tsq.state = .idle ∧ running.testing = true ∧ idle.testing = false :=
  ⟨running_free, held_free _, by decide +kernel⟩

theorem witness_RunningSample :
    running.tsq.state = .running ∧ running.breaksOn (sample 0 1000 12 0) = false ∧
    (running.tsq.active = some profile ∧ running.tsq.step = some 0 ∧ profile.steps[0]? = some (stepOf .posRate false) ∧
      1 ≤ (stepOf .posRate false).count ∧ ¬ (2 ≤ (stepOf .posRate false).count)) ∧ idle.tsq.active = none ∧
    ((held .request).tsq.state = .holding .request ∧ (held .request).breaksOn (sample 0 1000 12 0) = false ∧
      back.tsq.state.sampling = false ∧ running.tsq.prevLoaded = none) := by decide +kernel

/-- R148, R150: a strain of 5,000 meets the one condition of step 0, 4,999 does not, and nothing ends a step in HOLDING. -/
theorem test_step_ends :
    running.stepEnds (sample 0 1000 12 5000) false = true ∧ running.stepEnds (sample 0 1000 12 4999) false = false ∧
    ((held .request).testTake (sample 9 1000 12 5000) false).tsq.step = some 0 ∧
    ((held .request).testTake (sample 9 1000 12 5000) false).tsq.prevLoaded = some ⟨9, 1000⟩ := by decide +kernel

theorem witness_StepBoundaryOrder :
    running.tsq.step = some 0 ∧ running.currentStep = some (stepOf .posRate false) ∧ running.tsq.active = some profile ∧
    profile.steps[0 + 1]? = some (stepOf .strainRate true) ∧ profile.steps.length ≤ 1 + 1 ∧
    ({ running with tsq := { running.tsq with step := some 1 } } : State).currentStep = some (stepOf .strainRate true) := by
  decide +kernel

/-- A running test with a previous loaded sample and an Fmax at the break arm load. -/
def loaded (goesBack : Bool) : State :=
  { running with
    tsq := { running.tsq with
      prevLoaded := some ⟨7, 500000⟩
      active := some { profile with spec := { profileSpec with returnAfter := goesBack } } }
    res := { running.res with items := { running.res.items with record :=
      { running.res.items.record with fmax := some ⟨500000, 7⟩ } } } }

theorem witness_BreakSample :
    (loaded true).tsq.state.sampling = true ∧ (sample 8 400000 0 0).held = false ∧
    (sample 8 400000 0 0).load = some 400000 ∧ (loaded true).tsq.prevLoaded = some ⟨7, 500000⟩ ∧
    (loaded true).res.items.record.fmax = some ⟨500000, 7⟩ ∧
    (profileSpec.armLoad ≤ 500000 ∧ 500000 * profileSpec.breakStep ≤ (500000 - 400000) * 100) ∧
    (49999 * 100 < 500000 * profileSpec.breakFloor) ∧
    (∀ back : Bool, (loaded back).breaksOn (sample 8 400000 0 0) = true ∧ (loaded back).tsq.step = some 0 ∧
      (loaded back).tsq.active.map (·.spec.returnAfter) = some back) ∧
    ((arming .a .zeroed (loaded true)).breaksOn (sample 8 400000 0 0) = true ∧
      ((arming .a .zeroed (loaded true)).arm .a).state.engaged = true) := by decide +kernel

/-- R159: the arms are released, then BREAK names the step and the fracture sample, then the test changes state. -/
theorem test_break_events :
    (State.testTake (sample 8 400000 0 0) false (arming .a .seated (loaded true))).evq.entries.map (·.event) =
      [.arm .a .opened, .breakFound 0 7, .test .returning] ∧
    (State.testTake (sample 8 400000 0 0) false (loaded false)).evq.entries.map (·.event) =
      [.breakFound 0 7, .test (.ended .break), .resultReady .break true] := by decide +kernel

theorem witness_ActiveProfileHeldInStep :
    ∃ t, step (waiting .servoExpiry running) = .next t ∧ running.tsq.state.sampling = true ∧
      t.tsq.state.sampling = true ∧ t.tsq.step = running.tsq.step := ⟨_, rfl, by decide +kernel⟩

/-- Four samples of a rising and falling load; the greatest is the first of the two greatest (R170). -/
theorem test_fmax :
    (([10, 30, 30, 20].zipIdx).foldl (fun (q : ResItems) x =>
      (q.take profileSpec (sample x.2 x.1 0 0) x.1 (stressOf profileSpec x.1)).1) (Res.started profileSpec).items).record.fmax =
      some ⟨30, 1⟩ := by decide +kernel

theorem witness_ResultOrder : 0 < profileSpec.s0 ∧ 0 ≤ profileSpec.eNominal := by decide

/-- RES in the proof-stress search with a previous search sample. -/
def searching : ResItems :=
  { Res.powerOn.items with
    rpSearch := .searching, prevSearch := some ⟨3, 100, 1000, 1999⟩
    record := { ResultRecord.empty with e := some ⟨205000, .nominal, 0⟩ } }

/-- RES with a fit window of one sample less than the greatest n. -/
def fitting : ResItems := { Res.powerOn.items with sums := ⟨4294967294, 0, 0, 0, 0⟩ }

theorem witness_ProofStressAndFinalisation :
    searching.rpSearch = .searching ∧ searching.record.e = some ⟨205000, .nominal, 0⟩ ∧
    searching.prevSearch = some ⟨3, 100, 1000, 1999⟩ ∧ (1999 : Int) < profileSpec.offset ∧
    profileSpec.offset ≤ 3000 - roundDiv (200 * 10000) 205000 ∧
    2009 - roundDiv (200 * 10000) 205000 < profileSpec.offset ∧
    ({ searching with prevSearch := none }.rpSearch = .searching ∧ Res.powerOn.items.rpSearch ≠ .searching) ∧
    (searching.firstYield = none ∧ ({ searching with firstYield := some 2 } : ResItems).firstYield = some 2) ∧
    (fitting.fitOpen = true ∧ fitting.sums.n + 1 = 4294967295 ∧ Res.powerOn.items.sums.n + 1 ≠ 4294967295 ∧
      (sample 1 0 0 0).source ≠ .xhead ∧ ¬ (profileSpec.fitUpper < 30000) ∧ profileSpec.fitUpper < 30001 ∧
      (sample 1 0 10000 5).strain ≠ none ∧ profileSpec.fitLower ≤ 10000 ∧ ¬ (profileSpec.fitLower ≤ 9999)) := by decide +kernel

/-- R174, R175, R181: a sample at the offset takes Rp; a first yield sample found before is kept. -/
theorem test_proof_stress :
    let r := (searching.takeProof profileSpec (sample 4 0 0 0) 200 3000).1
    r.record.rp.map (fun f => (f.rp, f.index)) = some (100, 4) ∧ r.firstYield = some 4 ∧
    ({ searching with firstYield := some 2 }.takeProof profileSpec (sample 4 0 0 0) 200 3000).1.firstYield = some 2 := by
  decide +kernel

/-- R176: the search sample beyond the offset with none before it notes WINDOW. -/
theorem test_window :
    ({ searching with prevSearch := none }.takeProof profileSpec (sample 4 0 200 3000) 200 3000).1.record.rpWindow = true := by
  decide +kernel

/-- R171, R172: the sums of one sample, the closure above fit upper, and the closure at the greatest n. -/
theorem test_fit_window :
    (Res.powerOn.items.takeFit profileSpec (sample 1 0 10000 5) 10000).sums = ⟨1, 5, 10000, 25, 50000⟩ ∧
    (Res.powerOn.items.takeFit profileSpec (sample 1 0 30001 5) 30001).record.e = some ⟨205000, .nominal, 0⟩ ∧
    (fitting.takeFit profileSpec (sample 1 0 10000 5) 10000).fitOpen = false := by decide +kernel

/-- A streaming trace buffer with a fill and a factor. -/
def filled (n factor : Nat) : State :=
  { idle with trb := { idle.trb with
      streaming := true, base := 1, factor := factor, buffer := List.replicate n ⟨sample 0 0 0 0, false, factor⟩ } }

theorem witness_TraceRecords :
    running.lnk.free ∧ running.testing = true ∧ idle.testing = false ∧ (1 : Byte).toNat ≠ 0 ∧ 1 < (2 : Byte).toNat ∧
    ((3 : Byte).toNat ∉ [1, 2, 4, 8, 16, 32, 64] ∧ (64 : Byte).toNat ∈ [1, 2, 4, 8, 16, 32, 64]) ∧
    (0 < (filled 512 4).trb.factor ∧ 512 ≤ (filled 512 4).trb.buffer.length ∧ 4 ∣ (sample 8 0 0 0).index.toNat ∧
      ¬ (4 ∣ (sample 9 0 0 0).index.toNat)) ∧
    (383 ≤ (filled 383 32).trb.buffer.length ∧ (filled 383 32).trb.buffer.length < 512 ∧ (filled 383 32).trb.factor < 64) ∧
    (filled 382 4).trb.buffer.length < 383 ∧ 64 ≤ (filled 383 64).trb.factor := ⟨running_free, by decide +kernel⟩

/-- RES in a yield search with a candidate, or with ReH declared at index 9. -/
def yielding (t : YieldSearch) : ResItems :=
  { Res.powerOn.items with
    yieldSearch := t, candidate := some ⟨8, 40000, 2000⟩, declared := some 9
    record := { ResultRecord.empty with reh := some ⟨8, 40000, 2000⟩, rel := some 39000 } }

/-- A running test at a break, with the state before the last sample retained. -/
def retaining : State := { running with res := { items := yielding .lower, retained := some (yielding .upper) } }

theorem witness_YieldAndBreakRecord :
    (running.tsq.active = some profile ∧ (sample 1 500 12 40).held = false ∧ (sample 1 500 12 40).load = some 500 ∧
      (sample 1 500 12 40).stress = some 12 ∧ ({ sample 1 500 12 40 with held := true } : Sample).held = true) ∧
    ((yielding .upper).yieldSearch = .upper ∧ profileSpec.yieldLimit ≤ 30000 ∧ (29999 : Int) < profileSpec.yieldLimit ∧
      (yielding .upper).candidate = some ⟨8, 40000, 2000⟩ ∧ Res.powerOn.items.candidate = none ∧
      (profileSpec.fitUpper < 40000 ∧ 39800 ≤ roundDiv (40000 * (10000 - profileSpec.yieldDrop)) 10000) ∧
      ¬ (39801 ≤ roundDiv (40000 * (10000 - profileSpec.yieldDrop)) 10000)) ∧
    ((yielding .lower).yieldSearch = .lower ∧ (yielding .lower).record.reh = some ⟨8, 40000, 2000⟩ ∧
      (yielding .lower).declared = some 9 ∧ (40000 : Int) < 40001 ∧ 2000 + profileSpec.yieldEnd < 62001 ∧
      ((9 : Word).toNat : Int) + profileSpec.transient < ((110 : Word).toNat : Int) ∧
      ¬ (((9 : Word).toNat : Int) + profileSpec.transient < ((109 : Word).toNat : Int))) ∧
    (retaining.tsq.active = some profile ∧ retaining.res.retained = some (yielding .upper)) := by decide +kernel

/-- R178 to R180: the declaration of ReH, ReL after the transient, and the end of the yield range. -/
theorem test_yield :
    ((yielding .upper).takeYield profileSpec 9 39800 2100).2 = some (.yield .reh 40000) ∧
    ((yielding .lower).takeYield profileSpec 110 38000 2100).1.record.rel = some 38000 ∧
    ((yielding .lower).takeYield profileSpec 109 38000 2100).1.record.rel = some 39000 ∧
    ((yielding .lower).takeYield profileSpec 110 40001 2100).1.record.ae = some 100 := by decide +kernel

/-- R182, R183: a break returns to the retained state, whose search then lapses. -/
theorem test_retained : (retaining.resBreak (some 7)).res.items.yieldSearch = .lapsed ∧
    (retaining.resBreak (some 7)).res.items.record.fracture = some 7 := by decide +kernel

end Sys2Proof.Tests
end

section
/-! SUPPORT. The load channel's arithmetic and calibration tables (R1, R3, R4, R13, R14). -/

namespace Sys2Proof.Machine

/-! ### Rounded division (R1) -/

/-- The magnitude of the multiple of the divisor that a rounded quotient gives. -/
def roundedMultiple (n d : Nat) : Nat := d * ((2 * n + d) / (2 * d))

/-- A rounded multiple lies less than half a divisor below, and at most half a divisor above. -/
theorem roundedMultiple_bounds (n d : Nat) (hd : 0 < d) :
    2 * n < 2 * roundedMultiple n d + d ∧ 2 * roundedMultiple n d ≤ 2 * n + d := by
  have hdiv := Nat.div_add_mod (2 * n + d) (2 * d)
  have hmod := Nat.mod_lt (2 * n + d) (show 0 < 2 * d by omega)
  rw [mul_assoc] at hdiv
  unfold roundedMultiple
  omega

/-- The multiple that a rounded quotient gives has the sign of the dividend. -/
theorem mul_roundDiv (n d : Int) :
    d * roundDiv n d =
      if n < 0 then -(roundedMultiple n.natAbs d.natAbs : Int) else roundedMultiple n.natAbs d.natAbs := by
  unfold roundDiv roundedMultiple
  push_cast
  by_cases hn : n < 0
  · by_cases hd : d < 0
    · simp [hn, hd, abs_of_neg]
    · simp [hn, hd, abs_of_nonneg (not_lt.mp hd)]
  · by_cases hd : d < 0
    · simp [hn, hd, abs_of_neg]
    · simp [hn, hd, abs_of_nonneg (not_lt.mp hd)]

/-- A rounded quotient is a nearest whole number; of two equally near ones it is the one farther from zero (R1). -/
theorem roundDiv_nearest (n d : Int) (hd : d ≠ 0) :
    2 * (n - d * roundDiv n d).natAbs ≤ d.natAbs ∧
    (2 * (n - d * roundDiv n d).natAbs = d.natAbs → n.natAbs < (d * roundDiv n d).natAbs) := by
  obtain ⟨hbelow, habove⟩ := roundedMultiple_bounds n.natAbs d.natAbs (Int.natAbs_pos.mpr hd)
  rw [mul_roundDiv]
  split <;> omega

/-! ### Calibration tables (R3, R4) -/

/-- In a table of rising codes a later point has the greater code. -/
theorem code_lt_of_index_lt {t : List CalPoint} {i j : Nat} {p q : CalPoint}
    (hr : t.Pairwise fun a b => a.code < b.code) (hij : i < j) (hp : t[i]? = some p) (hq : t[j]? = some q) :
    p.code < q.code := by
  obtain ⟨hi, rfl⟩ := List.getElem?_eq_some_iff.mp hp
  obtain ⟨hj, rfl⟩ := List.getElem?_eq_some_iff.mp hq
  exact List.pairwise_iff_getElem.mp hr i j hi hj hij

/-- The segment at an index is the one that a code uses when the code is not below it, except at the first segment, and
not beyond it, except at the last (R4). -/
theorem tableSegment_eq (a b : CalPoint) (rest : List CalPoint) (c : Int) (i : Nat) (p q : CalPoint)
    (hr : (a :: b :: rest).Pairwise fun a b => a.code < b.code)
    (hp : (a :: b :: rest)[i]? = some p) (hq : (a :: b :: rest)[i + 1]? = some q)
    (hlow : i = 0 ∨ p.code ≤ c) (hhigh : c < q.code ∨ i + 2 = (a :: b :: rest).length) :
    tableSegment a b rest c = (p, q) := by
  induction rest generalizing a b i with
  | nil =>
    cases i with
    | zero => simp_all [tableSegment]
    | succ i => simp at hq
  | cons r rest ih =>
    cases i with
    | zero => simp_all [tableSegment]
    | succ i =>
      have hpc : p.code ≤ c := hlow.resolve_left (Nat.succ_ne_zero i)
      have hbp : b.code ≤ p.code := by
        cases i with
        | zero => simp_all
        | succ i => exact (code_lt_of_index_lt hr (show 1 < i + 1 + 1 by omega) rfl hp).le
      rw [tableSegment, if_neg (by omega)]
      exact ih b r i hr.of_cons hp hq (.inr hpc) (hhigh.imp_right Nat.succ.inj)

/-- The gross load is the interpolation along the segment that the code uses (R4). -/
theorem grossLoad_eq (t : List CalPoint) (c : Int) (i : Nat) (p q : CalPoint)
    (hr : t.Pairwise fun a b => a.code < b.code) (hp : t[i]? = some p) (hq : t[i + 1]? = some q)
    (hlow : i = 0 ∨ p.code ≤ c) (hhigh : c < q.code ∨ i + 2 = t.length) :
    grossLoad t c = some (alongSegment p q c) := by
  match t with
  | [] => simp at hp
  | [_] => simp at hq
  | a :: b :: rest => rw [grossLoad, tableSegment_eq a b rest c i p q hr hp hq hlow hhigh]

/-- Settles O24: the rounding by its bounds on the multiple, the segment by induction on the table. -/
theorem loadInterpolation : Obligations.LoadInterpolation := by
  refine ⟨roundDiv_nearest, fun table c i p q hr hp hq hc => ?_⟩
  have hpq : p.code < q.code := code_lt_of_index_lt hr (Nat.lt_succ_self i) hp hq
  obtain ⟨hfrom, huntil⟩ | ⟨hfirst, hbelow⟩ | ⟨hlast, hbeyond⟩ := hc
  · exact grossLoad_eq table c i p q hr hp hq (.inr hfrom) (.inl huntil)
  · exact grossLoad_eq table c i p q hr hp hq (.inl hfirst) (.inl (hbelow.trans hpq))
  · exact grossLoad_eq table c i p q hr hp hq (.inr (hpq.le.trans hbeyond)) (.inr hlast)

end Sys2Proof.Machine

namespace Sys2Proof

/-! ### The frames of CAL_WRITE and CAL_READ (R217, R218) -/

/-- A byte at an offset past the leading bytes is a byte of the rest. -/
theorem byteAt_append (pre rest : List Byte) (k : Nat) : byteAt (pre ++ rest) (pre.length + k) = byteAt rest k := by
  unfold byteAt
  rw [List.getD_append_right _ _ _ _ (Nat.le_add_right _ _), Nat.add_sub_cancel_left]

/-- A word written after leading bytes is read back at their number. -/
theorem wordAt_wordBytes (pre rest : List Byte) (w : Word) : wordAt (pre ++ (wordBytes w ++ rest)) pre.length = w := by
  have hfirst := byteAt_append pre (wordBytes w ++ rest) 0
  rw [Nat.add_zero] at hfirst
  rw [wordAt, hfirst, byteAt_append, byteAt_append, byteAt_append]
  exact word_join w

@[simp] theorem wordBytes_length (w : Word) : (wordBytes w).length = 4 := rfl

theorem pointBytes_length (points : List (Word × Word)) : (pointBytes points).length = 8 * points.length := by
  induction points with
  | nil => rfl
  | cons p rest ih =>
    simp only [pointBytes, List.length_append, wordBytes_length, ih, List.length_cons]
    omega

/-- The points written after leading bytes are read back from their number on. -/
theorem readPoints_pointBytes (pre : List Byte) (points : List (Word × Word)) :
    readPoints (pre ++ pointBytes points) pre.length points.length = points := by
  induction points generalizing pre with
  | nil => rfl
  | cons p rest ih =>
    obtain ⟨code, load⟩ := p
    have hcode : wordAt (pre ++ (wordBytes code ++ (wordBytes load ++ pointBytes rest))) pre.length = code :=
      wordAt_wordBytes pre _ code
    have hload := wordAt_wordBytes (pre ++ wordBytes code) (pointBytes rest) load
    have hrest := ih (pre ++ wordBytes code ++ wordBytes load)
    simp only [List.append_assoc, List.length_append, wordBytes_length] at hload hrest
    simp only [pointBytes, List.append_assoc, List.length_cons, readPoints, hcode, hload]
    rw [show pre.length + 8 = pre.length + (4 + 4) from rfl, hrest]

/-- The frame of a CAL_WRITE that fits a frame decodes to it. -/
theorem decodeFrame_calWrite (tag range : Byte) (points : List (Word × Word)) (h : 2 + 8 * points.length ≤ 240) :
    decodeFrame (Request.frame (.calWrite range points) tag) = .request (.calWrite range points) := by
  have hcount : (BitVec.ofNat 8 points.length).toNat = points.length := by
    rw [BitVec.toNat_ofNat]
    omega
  show decodeCalWrite (range :: BitVec.ofNat 8 points.length :: pointBytes points) = _
  have hlen : (range :: BitVec.ofNat 8 points.length :: pointBytes points).length = 2 + 8 * points.length := by
    rw [List.length_cons, List.length_cons, pointBytes_length]
    omega
  have hbyte : byteAt (range :: BitVec.ofNat 8 points.length :: pointBytes points) 1 = BitVec.ofNat 8 points.length :=
    rfl
  rw [decodeCalWrite, hlen, hbyte, hcount, if_pos ⟨Nat.le_add_right _ _, rfl⟩]
  exact congrArg (fun ps => Decoded.request (.calWrite range ps))
    (readPoints_pointBytes [range, BitVec.ofNat 8 points.length] points)

end Sys2Proof

namespace Sys2Proof.Machine

/-! ### The operands of CAL_WRITE (R3, R13) -/

theorem rangeOf_zero {b : Byte} (h : b.toNat = 0) : rangeOf b = some .fine := by
  simp only [rangeOf, h]

theorem rangeOf_one {b : Byte} (h : b.toNat = 1) : rangeOf b = some .wide := by
  simp only [rangeOf, h]

theorem rangeOf_above {b : Byte} (h : 1 < b.toNat) : rangeOf b = none := by
  unfold rangeOf
  split <;> simp_all

/-- The check of neighbours says that the codes rise along the whole table. -/
theorem codesRising_iff (t : List CalPoint) :
    codesRising t = true ↔ t.Pairwise fun a b : CalPoint => a.code < b.code := by
  have : IsTrans CalPoint (fun a b => a.code < b.code) := ⟨fun _ _ _ => lt_trans⟩
  rw [← List.isChain_iff_pairwise]
  induction t with
  | nil => simp [codesRising]
  | cons p t ih => cases t <;> simp_all [codesRising]

theorem inRange_iff (lo hi x : Int) : inRange lo hi x = true ↔ lo ≤ x ∧ x ≤ hi := by
  simp [inRange]

/-- The table check of CAL_WRITE (R13). -/
theorem tableValid_iff (t : List CalPoint) :
    tableValid t = true ↔
      (t.length = 0 ∨ 2 ≤ t.length ∧ t.length ≤ 11) ∧
      (∀ p ∈ t, -8388608 ≤ p.code ∧ p.code ≤ 8388607 ∧ -8000000 ≤ p.load ∧ p.load ≤ 8000000) ∧
      t.Pairwise fun a b : CalPoint => a.code < b.code := by
  simp [tableValid, codesRising_iff, inRange_iff, loadLimit, and_assoc]

theorem busy_iff (l : Ldc) : l.busy = true ↔ l.tareProgress ≠ none ∨ l.shunt ≠ none := by
  simp [Ldc.busy, Option.isSome_iff_ne_none]

/-! ### CAL_WRITE and CAL_READ at their dispatch (R13, R14) -/

theorem calWrite_of_closed {s : State} (h : s.dec.chain = .closed) (range : Byte) (points : List (Word × Word)) :
    s.calWrite range points = (s, .no .chain) := if_pos h

theorem calWrite_of_busy {s : State} (hc : s.dec.chain = .opened) (hb : s.ldc.busy = true) (range : Byte)
    (points : List (Word × Word)) : s.calWrite range points = (s, .no .busy) := by
  simp [State.calWrite, hc, hb]

theorem calWrite_of_bad {s : State} (hc : s.dec.chain = .opened) (hb : s.ldc.busy = false) {range : Byte}
    {points : List (Word × Word)} (h : ¬ (range.toNat ≤ 1 ∧ tableValid (calPointsOf points) = true)) :
    s.calWrite range points = (s, .no .badValue) := by
  cases hrange : rangeOf range with
  | none => simp [State.calWrite, hc, hb, hrange]
  | some r =>
    have hr : range.toNat ≤ 1 := by
      by_contra habove
      simp [rangeOf_above (not_le.mp habove)] at hrange
    have ht : ¬ tableValid (calPointsOf points) = true := fun ht => h ⟨hr, ht⟩
    simp [State.calWrite, hc, hb, hrange, ht]

theorem calWrite_of_good {s : State} (hc : s.dec.chain = .opened) (hb : s.ldc.busy = false) {range : Byte}
    {points : List (Word × Word)} (hr : range.toNat ≤ 1) (ht : tableValid (calPointsOf points) = true) :
    s.calWrite range points =
      (if range.toNat = 0 then { s with ldc := { s.ldc with fineTable := calPointsOf points } }
       else { s with ldc := { s.ldc with wideTable := calPointsOf points } }, .ack []) := by
  by_cases h0 : range.toNat = 0
  · simp [State.calWrite, hc, hb, rangeOf_zero h0, ht, h0, Ldc.setTable]
  · simp [State.calWrite, hc, hb, rangeOf_one (show range.toNat = 1 by omega), ht, h0, Ldc.setTable]

/-- On a free link a CAL_WRITE that fits a frame is answered with what LDC does (R208 to R210). -/
theorem exec_calWrite {s : State} (hf : s.lnk.free) (tag range : Byte) {points : List (Word × Word)}
    (h : 2 + 8 * points.length ≤ 240) :
    exec (.calWrite tag range points) s = .next (State.answered 0x08 tag (s.calWrite range points)) :=
  congrArg _ (request_free s (.calWrite range points) tag hf (decodeFrame_calWrite tag range points h))

/-- On a free link a CAL_READ is answered with the table and the shunt parameters of its range (R208 to R210). -/
theorem exec_calRead {s : State} (hf : s.lnk.free) (tag range : Byte) :
    exec (.calRead tag range) s = .next (State.answered 0x09 tag (s.calRead range)) :=
  congrArg _ (request_free s (.calRead range) tag hf rfl)

/-- Settles O26: the request's action by its checks in order, on the frame that decodes to it. -/
theorem calibrationTables : Obligations.CalibrationTables := by
  refine ⟨fun s tag range points hf hlen => ⟨fun hc => ?_, fun hc hb => ?_, fun hc htare hshunt => ?_⟩,
    fun s tag range hf => ⟨fun h => ?_, fun h => ?_, fun h => ?_⟩⟩
  · rw [exec_calWrite hf tag range hlen, calWrite_of_closed hc]; rfl
  · rw [exec_calWrite hf tag range hlen, calWrite_of_busy hc ((busy_iff _).mpr hb)]; rfl
  · have hidle : s.ldc.busy = false := by simp [Ldc.busy, htare, hshunt]
    have hvalid := tableValid_iff (calPointsOf points)
    rw [show (calPointsOf points).length = points.length from List.length_map _] at hvalid
    refine ⟨fun hbad => ?_, fun ⟨hr, ht⟩ => ?_⟩
    · have hbad' := fun hok : _ ∧ _ => hbad ⟨hok.1, hvalid.mp hok.2⟩
      rw [exec_calWrite hf tag range hlen, calWrite_of_bad hc hidle hbad']; rfl
    · rw [exec_calWrite hf tag range hlen, calWrite_of_good hc hidle hr (hvalid.mpr ht)]; rfl
  · rw [exec_calRead hf, State.calRead, rangeOf_zero h]; rfl
  · rw [exec_calRead hf, State.calRead, rangeOf_one h]; rfl
  · rw [exec_calRead hf, State.calRead, rangeOf_above h]; rfl

end Sys2Proof.Machine
end

section
/-! SUPPORT. The configuration of the extensometer arms (R26). -/

namespace Sys2Proof

/-! ### The frame of EXT_CONFIG (R217, R218) -/

/-- An arm's fields are those of its bytes at an offset, each word from the offset after the field before it. -/
theorem readArmConfig_eq {p : List Byte} {i : Nat} {a : ArmConfigFields} (henabled : byteAt p i = a.enabled)
    (hscale : wordAt p (i + 1) = a.scale) (hspan : wordAt p (i + 5) = a.span) (hslip : wordAt p (i + 9) = a.slip) :
    readArmConfig p i = a := by
  rw [readArmConfig, henabled, hscale, hspan, hslip]

/-- The payload of an EXT_CONFIG is read back as its fields. -/
theorem readExtConfig_extConfigBytes (f : ExtConfigFields) : readExtConfig (extConfigBytes f) = f := by
  have hA : readArmConfig (extConfigBytes f) 0 = f.armA :=
    readArmConfig_eq rfl (word_join _) (word_join _) (word_join _)
  have hB : readArmConfig (extConfigBytes f) 13 = f.armB :=
    readArmConfig_eq rfl (word_join _) (word_join _) (word_join _)
  have hhalves : halfAt (extConfigBytes f) 26 = f.pullIn ∧ halfAt (extConfigBytes f) 28 = f.holdOn ∧
      halfAt (extConfigBytes f) 30 = f.holdOff ∧ halfAt (extConfigBytes f) 32 = f.seatTimeout ∧
      halfAt (extConfigBytes f) 34 = f.releaseTimeout :=
    ⟨half_join _, half_join _, half_join _, half_join _, half_join _⟩
  obtain ⟨hpull, hon, hoff, hseat, hrelease⟩ := hhalves
  rw [readExtConfig, hA, hB, hpull, hon, hoff, hseat, hrelease]

/-- The frame of an EXT_CONFIG decodes to it. -/
theorem decodeFrame_extConfig (tag : Byte) (f : ExtConfigFields) :
    decodeFrame (Request.frame (.extConfig f) tag) = .request (.extConfig f) :=
  congrArg (fun g => Decoded.request (.extConfig g)) (readExtConfig_extConfigBytes f)

end Sys2Proof

namespace Sys2Proof.Machine

/-! ### The operands of EXT_CONFIG (R26) -/

theorem flagOf_isSome_iff (b : Byte) : (flagOf b).isSome = true ↔ b.toNat ≤ 1 := by
  unfold flagOf
  split <;> simp_all
  omega

theorem flagOf_getD (b : Byte) : (flagOf b).getD false = (b.toNat == 1) := by
  unfold flagOf
  split <;> simp_all

theorem armFieldsValid_iff (a : ArmConfigFields) :
    armFieldsValid a = true ↔
      a.enabled.toNat ≤ 1 ∧ 1 ≤ a.scale.toInt ∧ a.scale.toInt ≤ 16777216 ∧ 1 ≤ a.span.toInt ∧ a.span.toInt ≤ 1000000 ∧
      100 ≤ a.slip.toInt ∧ a.slip.toInt ≤ 100000 := by
  simp [armFieldsValid, flagOf_isSome_iff, inRange_iff, and_assoc]

theorem extFieldsValid_iff (f : ExtConfigFields) :
    extFieldsValid f = true ↔
      armFieldsValid f.armA = true ∧ armFieldsValid f.armB = true ∧ 50 ≤ f.pullIn.toNat ∧ f.pullIn.toNat ≤ 500 ∧
      50 ≤ f.holdOn.toNat ∧ f.holdOn.toNat ≤ 950 ∧ 50 ≤ f.holdOff.toNat ∧ f.holdOff.toNat ≤ 950 ∧
      100 ≤ f.seatTimeout.toNat ∧ f.seatTimeout.toNat ≤ 2000 ∧ 100 ≤ f.releaseTimeout.toNat ∧
      f.releaseTimeout.toNat ≤ 2000 := by
  simp [extFieldsValid, inRange_iff, and_assoc]

/-- An arm's configured record, its enabling byte read as a number. -/
theorem configuredArm_eq (a : ArmConfigFields) (r : ArmRec) :
    r.configured a = { r with enabled := a.enabled.toNat == 1, scale := some a.scale.toInt, span := some a.span.toInt,
                              slipThreshold := some a.slip.toInt } := by
  rw [ArmRec.configured, flagOf_getD]

/-! ### EXT_CONFIG at its dispatch (R26) -/

theorem extConfig_of_not_open {s : State} (h : s.xtc.armA.state ≠ .opened ∨ s.xtc.armB.state ≠ .opened)
    (f : ExtConfigFields) : s.extConfig f = (s, .no .state) := if_pos h

theorem extConfig_of_open {s : State} (ha : s.xtc.armA.state = .opened) (hb : s.xtc.armB.state = .opened)
    (f : ExtConfigFields) :
    s.extConfig f =
      if extFieldsValid f then ({ s with xtc := s.xtc.configured f }, .ack []) else (s, .no .badValue) :=
  if_neg fun h => h.elim (· ha) (· hb)

/-- On a free link an EXT_CONFIG is answered with what XTC does (R208 to R210). -/
theorem exec_extConfig {s : State} (hf : s.lnk.free) (tag : Byte) (f : ExtConfigFields) :
    exec (.extConfig tag f) s = .next (State.answered 0x0E tag (s.extConfig f)) :=
  congrArg _ (request_free s (.extConfig f) tag hf (decodeFrame_extConfig tag f))

/-- Settles O31: the request's action by its checks in order, on the frame that decodes to it. -/
theorem extConfigWrites : Obligations.ExtConfigWrites := by
  intro s tag f hf armGood good arm
  have hgood : extFieldsValid f = true ↔ good := by
    rw [extFieldsValid_iff, armFieldsValid_iff, armFieldsValid_iff]
  refine ⟨fun hmoved => ?_, fun ha hb hbad => ?_, fun ha hb hok => ?_⟩
  · rw [exec_extConfig hf, extConfig_of_not_open hmoved]; rfl
  · rw [exec_extConfig hf, extConfig_of_open ha hb, if_neg (mt hgood.mp hbad)]; rfl
  · rw [exec_extConfig hf, extConfig_of_open ha hb, if_pos (hgood.mpr hok), Xtc.configured, configuredArm_eq,
      configuredArm_eq]
    rfl

end Sys2Proof.Machine
end

section
/-! SUPPORT. The writes of the staged test profile (R131, R132). -/

namespace Sys2Proof

/-! ### Fields that follow a first part of known length -/

theorem halfAt_append (pre rest : List Byte) (k : Nat) : halfAt (pre ++ rest) (pre.length + k) = halfAt rest k := by
  rw [halfAt, Nat.add_assoc, byteAt_append, byteAt_append, halfAt]

theorem wordAt_append (pre rest : List Byte) (k : Nat) : wordAt (pre ++ rest) (pre.length + k) = wordAt rest k := by
  simp only [wordAt, Nat.add_assoc, byteAt_append]

/-- A text written after leading bytes is read back at their number. -/
theorem bytesAt_append (pre text rest : List Byte) : bytesAt (pre ++ (text ++ rest)) pre.length text.length = text := by
  rw [bytesAt, List.drop_left, List.take_left]

/-! ### The frame of PROFILE_SPEC_WRITE (R217, section 11.8) -/

/-- The bytes of the spec layout before the specimen text. -/
def specHead (f : SpecFields) : List Byte :=
  halfBytes f.presence ++ wordBytes f.s0 ++ wordBytes f.l0 ++ wordBytes f.lc ++ wordBytes f.eNominal ++ [f.specimenLength]

/-- The bytes of the spec layout up to the cast text. -/
def specTexts (f : SpecFields) : List Byte := specHead f ++ (f.specimen ++ f.castLength :: f.cast)

/-- The bytes of the spec layout after the cast text. -/
def specFigures (f : SpecFields) : List Byte :=
  f.plan :: (wordBytes f.fitLower ++ wordBytes f.fitUpper ++ halfBytes f.offset ++ halfBytes f.yieldDrop ++
  halfBytes f.transient ++ wordBytes f.yieldLimit ++ wordBytes f.yieldEnd ++ wordBytes f.armLoad ++ f.breakStep ::
  f.breakFloor :: (wordBytes f.testOverload ++ f.returnAfter :: (wordBytes f.returnSpeed ++ [f.traceBase, f.stepCount])))

theorem specBytes_eq (f : SpecFields) : specBytes f = specTexts f ++ specFigures f := by
  simp only [specBytes, specTexts, specHead, specFigures, List.append_assoc, List.cons_append, List.nil_append]

section
variable {f : SpecFields}

theorem specFields_wellFormed_iff : f.wellFormed = true ↔ f.specimen.length = 16 ∧ f.cast.length = 12 := by
  simp [SpecFields.wellFormed]

theorem specTexts_length (h : f.wellFormed = true) : (specTexts f).length = 48 := by
  obtain ⟨hspecimen, hcast⟩ := specFields_wellFormed_iff.mp h
  have hhead : (specHead f).length = 19 := rfl
  rw [specTexts, List.length_append, List.length_append, List.length_cons, hhead, hspecimen, hcast]

theorem specBytes_length (h : f.wellFormed = true) : (specBytes f).length = 88 := by
  have hfigures : (specFigures f).length = 40 := rfl
  rw [specBytes_eq, List.length_append, specTexts_length h, hfigures]

theorem byteAt_specBytes (h : f.wellFormed = true) (k : Nat) :
    byteAt (specBytes f) (48 + k) = byteAt (specFigures f) k := by
  rw [specBytes_eq, ← specTexts_length h, byteAt_append]

theorem halfAt_specBytes (h : f.wellFormed = true) (k : Nat) :
    halfAt (specBytes f) (48 + k) = halfAt (specFigures f) k := by
  rw [specBytes_eq, ← specTexts_length h, halfAt_append]

theorem wordAt_specBytes (h : f.wellFormed = true) (k : Nat) :
    wordAt (specBytes f) (48 + k) = wordAt (specFigures f) k := by
  rw [specBytes_eq, ← specTexts_length h, wordAt_append]

/-- The specimen text, the length of the cast text and the cast text are read back from the spec layout. -/
theorem texts_of_specBytes (h : f.wellFormed = true) :
    bytesAt (specBytes f) 19 16 = f.specimen ∧ byteAt (specBytes f) 35 = f.castLength ∧
    bytesAt (specBytes f) 36 12 = f.cast := by
  obtain ⟨hspecimen, hcast⟩ := specFields_wellFormed_iff.mp h
  have hspecimenEnd : (specHead f ++ f.specimen).length = 35 := by rw [List.length_append, hspecimen]; rfl
  have hcastStart : (specHead f ++ f.specimen ++ [f.castLength]).length = 36 := by
    rw [List.length_append, hspecimenEnd]; rfl
  have readSpecimen := bytesAt_append (specHead f) f.specimen (f.castLength :: (f.cast ++ specFigures f))
  have readCastLength := byteAt_append (specHead f ++ f.specimen) (f.castLength :: (f.cast ++ specFigures f)) 0
  have readCast := bytesAt_append (specHead f ++ f.specimen ++ [f.castLength]) f.cast (specFigures f)
  rw [hspecimen] at readSpecimen
  rw [hspecimenEnd] at readCastLength
  rw [hcastStart, hcast] at readCast
  simp only [specBytes_eq, specTexts, List.append_assoc, List.cons_append, List.nil_append] at readCastLength readCast ⊢
  exact ⟨readSpecimen, readCastLength, readCast⟩

/-- The spec layout of well-formed fields is read back as the fields. -/
theorem readSpec_specBytes (h : f.wellFormed = true) : readSpec (specBytes f) = f := by
  obtain ⟨hspecimen, hcastLength, hcast⟩ := texts_of_specBytes h
  have hhead : halfAt (specBytes f) 0 = f.presence ∧ wordAt (specBytes f) 2 = f.s0 ∧ wordAt (specBytes f) 6 = f.l0 ∧
      wordAt (specBytes f) 10 = f.lc ∧ wordAt (specBytes f) 14 = f.eNominal ∧ byteAt (specBytes f) 18 = f.specimenLength :=
    ⟨half_join _, word_join _, word_join _, word_join _, word_join _, rfl⟩
  obtain ⟨hpresence, hs0, hl0, hlc, heNominal, hspecimenLength⟩ := hhead
  have hbytes : byteAt (specBytes f) 48 = f.plan ∧ byteAt (specBytes f) 75 = f.breakStep ∧
      byteAt (specBytes f) 76 = f.breakFloor ∧ byteAt (specBytes f) 81 = f.returnAfter ∧
      byteAt (specBytes f) 86 = f.traceBase ∧ byteAt (specBytes f) 87 = f.stepCount :=
    ⟨byteAt_specBytes h 0, byteAt_specBytes h 27, byteAt_specBytes h 28, byteAt_specBytes h 33, byteAt_specBytes h 38,
      byteAt_specBytes h 39⟩
  obtain ⟨hplan, hbreakStep, hbreakFloor, hreturnAfter, htraceBase, hstepCount⟩ := hbytes
  have hhalves : halfAt (specBytes f) 57 = f.offset ∧ halfAt (specBytes f) 59 = f.yieldDrop ∧
      halfAt (specBytes f) 61 = f.transient :=
    ⟨(halfAt_specBytes h 9).trans (half_join _), (halfAt_specBytes h 11).trans (half_join _),
      (halfAt_specBytes h 13).trans (half_join _)⟩
  obtain ⟨hoffset, hyieldDrop, htransient⟩ := hhalves
  have hwords : wordAt (specBytes f) 49 = f.fitLower ∧ wordAt (specBytes f) 53 = f.fitUpper ∧
      wordAt (specBytes f) 63 = f.yieldLimit ∧ wordAt (specBytes f) 67 = f.yieldEnd ∧
      wordAt (specBytes f) 71 = f.armLoad ∧ wordAt (specBytes f) 77 = f.testOverload ∧
      wordAt (specBytes f) 82 = f.returnSpeed :=
    ⟨(wordAt_specBytes h 1).trans (word_join _), (wordAt_specBytes h 5).trans (word_join _),
      (wordAt_specBytes h 15).trans (word_join _), (wordAt_specBytes h 19).trans (word_join _),
      (wordAt_specBytes h 23).trans (word_join _), (wordAt_specBytes h 29).trans (word_join _),
      (wordAt_specBytes h 34).trans (word_join _)⟩
  obtain ⟨hfitLower, hfitUpper, hyieldLimit, hyieldEnd, harmLoad, htestOverload, hreturnSpeed⟩ := hwords
  simp only [readSpec, *]

end

/-- The frame of a well-formed PROFILE_SPEC_WRITE decodes to it. -/
theorem decodeFrame_profileSpecWrite (tag : Byte) {f : SpecFields} (h : f.wellFormed = true) :
    decodeFrame (Request.frame (.profileSpecWrite f) tag) = .request (.profileSpecWrite f) := by
  show fixedLength 88 (specBytes f) (.profileSpecWrite (readSpec (specBytes f))) = _
  rw [fixedLength, if_pos (specBytes_length h), readSpec_specBytes h]

/-! ### The frame of PROFILE_STEP_WRITE (R217, section 11.8) -/

/-- The record of the step layout is read back, after any slot index. -/
theorem readStep_stepBytes (slot : Byte) (r : StepRecord) : readStep (stepBytes slot r) = r := by
  have hjoined : wordAt (stepBytes slot r) 2 = r.rate ∧ halfAt (stepBytes slot r) 6 = r.transition ∧
      wordAt (stepBytes slot r) 10 = r.threshold1 ∧ wordAt (stepBytes slot r) 15 = r.threshold2 :=
    ⟨word_join _, half_join _, word_join _, word_join _⟩
  obtain ⟨hrate, htransition, hthreshold1, hthreshold2⟩ := hjoined
  rw [readStep, hrate, htransition, hthreshold1, hthreshold2]
  rfl

/-- The frame of a PROFILE_STEP_WRITE decodes to it. -/
theorem decodeFrame_profileStepWrite (tag slot : Byte) (r : StepRecord) :
    decodeFrame (Request.frame (.profileStepWrite slot r) tag) = .request (.profileStepWrite slot r) :=
  congrArg (fun k => Decoded.request (.profileStepWrite slot k)) (readStep_stepBytes slot r)

end Sys2Proof

namespace Sys2Proof.Machine

/-! ### The staged copy after a spec write (R131) -/

/-- The written marks are kept when a spec part with the same step count was held. -/
theorem writeSpec_of_count_eq {c : StagedCopy} {f g : StagedSpec} (hg : c.spec = some g)
    (hcount : g.stepCount = f.stepCount) : c.writeSpec f = { spec := some f, slots := c.slots } := by
  simp only [StagedCopy.writeSpec, hg, hcount, if_true]

/-- The written marks are cleared when no spec part, or one with another step count, was held. -/
theorem writeSpec_of_count_ne {c : StagedCopy} {f : StagedSpec}
    (hcount : ∀ g : StagedSpec, c.spec = some g → g.stepCount ≠ f.stepCount) :
    c.writeSpec f = { spec := some f, slots := clearMarks c.slots } := by
  cases hg : c.spec with
  | none => simp only [StagedCopy.writeSpec, hg]
  | some g => simp only [StagedCopy.writeSpec, hg, hcount g hg, if_false]

/-! ### PROFILE_SPEC_WRITE and PROFILE_STEP_WRITE at their dispatch (R131, R132) -/

theorem profileSpecWrite_of_long {f : SpecFields} (h : 16 < f.specimenLength.toNat ∨ 12 < f.castLength.toNat)
    (s : State) : s.profileSpecWrite f = (s, .no .badValue) := if_pos h

theorem profileSpecWrite_of_fits {f : SpecFields} (hspecimen : f.specimenLength.toNat ≤ 16)
    (hcast : f.castLength.toNat ≤ 12) (s : State) :
    s.profileSpecWrite f =
      ({ s with tsq := { s.tsq with staged := s.tsq.staged.writeSpec (stagedSpecOf f) } }, .ack []) :=
  if_neg fun h => h.elim hspecimen.not_gt hcast.not_gt

theorem profileStepWrite_of_bad {slot : Byte} {r : StepRecord} (h : 11 < slot.toNat ∨ 2 < r.count.toNat) (s : State) :
    s.profileStepWrite slot r = (s, .no .badValue) := by
  by_cases hslot : slot.toNat < 12
  · have hcount : 2 < r.count.toNat := h.resolve_left (by omega)
    rw [State.profileStepWrite, dif_pos hslot, if_pos hcount]
  · rw [State.profileStepWrite, dif_neg hslot]

theorem profileStepWrite_of_good {slot : Byte} {r : StepRecord} (hslot : slot.toNat < 12) (hcount : r.count.toNat ≤ 2)
    (s : State) :
    s.profileStepWrite slot r =
      ({ s with tsq := { s.tsq with staged :=
        { s.tsq.staged with slots := s.tsq.staged.slots.set slot.toNat ⟨r, true⟩ hslot } } }, .ack []) := by
  rw [State.profileStepWrite, dif_pos hslot, if_neg hcount.not_gt]

/-- On a free link a well-formed PROFILE_SPEC_WRITE is answered with what TSQ does (R208 to R210). -/
theorem exec_profileSpecWrite {s : State} (hf : s.lnk.free) (tag : Byte) {f : SpecFields} (hw : f.wellFormed = true) :
    exec (.profileSpecWrite tag f) s = .next (State.answered 0x1A tag (s.profileSpecWrite f)) :=
  congrArg _ (request_free s (.profileSpecWrite f) tag hf (decodeFrame_profileSpecWrite tag hw))

/-- On a free link a PROFILE_STEP_WRITE is answered with what TSQ does (R208 to R210). -/
theorem exec_profileStepWrite {s : State} (hf : s.lnk.free) (tag slot : Byte) (r : StepRecord) :
    exec (.profileStepWrite tag slot r) s = .next (State.answered 0x1B tag (s.profileStepWrite slot r)) :=
  congrArg _ (request_free s (.profileStepWrite slot r) tag hf (decodeFrame_profileStepWrite tag slot r))

/-- Settles O46: each request's action by its checks, on the frame that decodes to it. -/
theorem profileWrites : Obligations.ProfileWrites := by
  intro s tag slot f r hf hw half word byte spec old staged cleared
  refine ⟨fun hlong => ?_, fun hspecimen hcast => ⟨fun ⟨g, hg, hcount⟩ => ?_, fun hcount => ?_⟩, fun hbad => ?_,
    fun hslot hcount => ?_⟩
  · rw [exec_profileSpecWrite hf tag hw, profileSpecWrite_of_long hlong]; rfl
  · rw [exec_profileSpecWrite hf tag hw, profileSpecWrite_of_fits hspecimen hcast,
      writeSpec_of_count_eq (f := stagedSpecOf f) hg hcount]
    rfl
  · rw [exec_profileSpecWrite hf tag hw, profileSpecWrite_of_fits hspecimen hcast,
      writeSpec_of_count_ne (f := stagedSpecOf f) hcount]
    rfl
  · rw [exec_profileStepWrite hf, profileStepWrite_of_bad hbad]; rfl
  · rw [exec_profileStepWrite hf, profileStepWrite_of_good hslot hcount]; rfl

end Sys2Proof.Machine
end

section
/-! SUPPORT. Requests as commands: the frame of every request decodes to it, and on a free link its owning block answers it
(R208 to R210, R217). -/

namespace Sys2Proof

/-- The payload of a FRAME_CONFIG is read back as its fields. -/
theorem readFrameConfig_frameConfigBytes (f : FrameConfigFields) : readFrameConfig (frameConfigBytes f) = f := by
  have h : ∀ w : Word,
      ((w.extractLsb' 24 8 ++ w.extractLsb' 16 8) ++ w.extractLsb' 8 8) ++ w.extractLsb' 0 8 = w := word_join
  simp only [readFrameConfig, frameConfigBytes, wordBytes, wordAt, byteAt, List.cons_append, List.nil_append,
    List.getD_cons_succ, List.getD_cons_zero, h]

/-- The frame of a well-formed request decodes to it (R217). -/
theorem decodeFrame_frame (r : Request) (tag : Byte) (h : r.wellFormed = true) :
    decodeFrame (r.frame tag) = .request r := by
  cases r with
  | ping payload => exact if_pos (of_decide_eq_true h)
  | calWrite range points => exact decodeFrame_calWrite tag range points (of_decide_eq_true h)
  | profileSpecWrite fields => exact decodeFrame_profileSpecWrite tag h
  | profileStepWrite slot record => exact decodeFrame_profileStepWrite tag slot record
  | extConfig fields => exact decodeFrame_extConfig tag fields
  | frameConfig fields => exact congrArg (fun g => Decoded.request (.frameConfig g)) (readFrameConfig_frameConfigBytes fields)
  | shuntConfig range expected tolerance =>
    exact congrArg₂ (fun x y => Decoded.request (.shuntConfig range x y)) (word_join expected) (word_join tolerance)
  | jog speed => exact congrArg (fun x => Decoded.request (.jog x)) (word_join speed)
  | moveTo target speed =>
    exact congrArg₂ (fun x y => Decoded.request (.moveTo x y)) (word_join target) (word_join speed)
  | _ => rfl

end Sys2Proof

namespace Sys2Proof.Machine

/-- A request command is the arrival of its frame (R208). -/
theorem exec_command (r : Request) (tag : Byte) (s : State) : exec (Request.command tag r) s = .next (s.request r tag) := by
  cases r <;> rfl

/-- On a free link a well-formed request is answered with what its owning block does (R208 to R210). -/
theorem exec_answered {s : State} (hf : s.lnk.free) (r : Request) (tag : Byte) (h : r.wellFormed = true) :
    exec (Request.command tag r) s = .next (State.answered r.kind tag (s.act r)) := by
  rw [exec_command, request_free s r tag hf (decodeFrame_frame r tag h)]

/-- Settles O5: by the layout of each request's payload. -/
theorem requestFramesDecode : Obligations.RequestFramesDecode := decodeFrame_frame

/-! ### The one reply of a request (R209 to R213) -/

/-- The reply of an answer changes the link alone, and the frame made is the reply of R210 to R212. -/
theorem answered_eq (kind tag : Byte) (request : Frame) (hk : request.kind = kind) (ht : request.tag = tag)
    (a : State × Answer) :
    State.answered kind tag a = { a.1 with lnk := a.1.lnk.replying (a.1.reply request a.2) } := by
  obtain ⟨t, answer⟩ := a
  subst hk ht
  cases answer <;> rfl

/-- A reply begins with the status header, under the request's tag (R210, R211). -/
theorem reply_header (f : Frame) (a : Answer) (s : State) :
    (s.reply f a).tag = f.tag ∧ (s.reply f a).payload.take 4 = s.statusHeader := by
  cases a <;> exact ⟨rfl, rfl⟩

/-- A reply is an acknowledgement, or a refusal that names the request's kind and a reason (R210, R212). -/
theorem reply_kind (f : Frame) (a : Answer) (s : State) :
    (s.reply f a).kind = f.kind + 0x80#8 ∨
    ((s.reply f a).kind = 0xFE#8 ∧ (s.reply f a).payload.length = 8 ∧ (s.reply f a).payload[4]? = some f.kind ∧
      ∃ reason : Reason, (s.reply f a).payload[5]? = some (refusalCode reason)) := by
  cases a with
  | ack bytes => exact .inl rfl
  | refuse reason detail => exact .inr ⟨rfl, rfl, rfl, reason, rfl⟩

/-- Settles O9: the one reply is made with the state after the owning block has acted, which leaves the link alone. -/
theorem requestGetsOneReply : Obligations.RequestGetsOneReply := by
  intro s r tag hf hw
  have hreply := answered_eq r.kind tag (r.frame tag) rfl rfl (s.act r)
  have hlnk := act_lnk s r
  obtain ⟨htag, hheader⟩ := reply_header (r.frame tag) (s.act r).2 (s.act r).1
  refine ⟨_, (s.act r).1.reply (r.frame tag) (s.act r).2, exec_answered hf r tag hw, ?_, ?_, htag, ?_, ?_⟩
  · rw [hreply]; exact act_pending s r
  · rw [hreply, hlnk]
  · rw [hreply]; exact hheader
  · exact reply_kind (r.frame tag) (s.act r).2 (s.act r).1

end Sys2Proof.Machine
end

section
/-! SUPPORT. What one command can do: at most one block's work, besides changes of the link. Every law of the whole part that
the works keep is kept by every step. -/

namespace Sys2Proof.Machine

/-- The work of a command in the blocks other than LNK: none, the action of one request, or the work of one event. -/
inductive Work : State → State → Prop where
  | none (s : State) : Work s s
  | act (s : State) (r : Request) : Work s (s.act r).1
  | powerOn (s : State) (rate : BitVec 2) (levels : BitVec 10) (a b : Bool) : Work s (s.powerOn rate levels a b)
  | restart (s : State) : Work s s.restart
  | tick (s : State) : Work s s.partTimeTick
  | halt (s : State) : Work s (s.trip .halt).haltLoad
  | traceSent (s : State) : Work s s.traceSent
  | loadConversion (s : State) (c : Int) : Work s (s.loadConversion c)
  | extConversion (s : State) (w : Arm) (c : Int) : Work s (s.extConversion w c)
  | encoderSample (s : State) (a b : Bool) : Work s (s.encoderSample a b)
  | servoExpiry (s : State) : Work s s.servoExpiry
  | jogLapse (s : State) : Work s s.jogLapse
  | pullInEnd (s : State) (w : Arm) : Work s (s.pullInEnd w)
  | holdPhaseEnd (s : State) (w : Arm) : Work s (s.holdPhaseEnd w)
  | seatTimeout (s : State) (w : Arm) : Work s (s.seatTimeout w)
  | releaseTimeout (s : State) (w : Arm) : Work s (s.releaseTimeout w)
  | rawChange (s : State) (i : Input) (level : Bool) (us : Fin 1000) : Work s (s.rawChange i level us)
  | debounceEnd (s : State) (i : Input) (us : Fin 1000) : Work s (s.debounceEnd i us)

/-- A state with other items of LNK, another queue of commands and another in-flight mark of TRB: what the link does by
itself. -/
def State.relinked (l : Lnk) (q : List Instr) (m : InFlight) (s : State) : State :=
  { s with lnk := l, pending := q, trb := { s.trb with inFlight := m } }

/-- Two states that differ at most in what the link does by itself. -/
def Relinked (s t : State) : Prop := ∃ l q m, t = s.relinked l q m

theorem Relinked.refl (s : State) : Relinked s s := ⟨s.lnk, s.pending, s.trb.inFlight, rfl⟩

theorem Relinked.trans {s t u : State} (h : Relinked s t) (h' : Relinked t u) : Relinked s u := by
  obtain ⟨_, _, _, rfl⟩ := h
  obtain ⟨l, q, m, rfl⟩ := h'
  exact ⟨l, q, m, rfl⟩

theorem relinked_lnk (s : State) (l : Lnk) : Relinked s { s with lnk := l } := ⟨l, s.pending, s.trb.inFlight, rfl⟩

theorem relinked_pending (s : State) (q : List Instr) : Relinked s { s with pending := q } :=
  ⟨s.lnk, q, s.trb.inFlight, rfl⟩

theorem relinked_chooseFrame (s : State) : Relinked s s.chooseFrame := by
  unfold State.chooseFrame
  split
  · exact relinked_lnk s _
  · exact ⟨_, s.pending, .oldest, rfl⟩
  · exact relinked_lnk s _

theorem relinked_kick (s : State) : Relinked s s.kick := by
  unfold State.kick
  split
  · exact relinked_chooseFrame s
  · exact .refl s

/-- A work with changes of the link before and after it. -/
def Works (s t : State) : Prop := ∃ u v, Relinked s u ∧ Work u v ∧ Relinked v t

theorem Works.of {s u v t : State} (h : Relinked s u) (w : Work u v) (h' : Relinked v t) : Works s t := ⟨u, v, h, w, h'⟩

theorem Works.work {s t : State} (w : Work s t) : Works s t := .of (.refl s) w (.refl t)

theorem Works.link {s t : State} (h : Relinked s t) : Works s t := .of h (.none t) (.refl t)

theorem Works.before {s t u : State} (h : Relinked s t) (w : Works t u) : Works s u := by
  obtain ⟨x, y, hx, hw, hy⟩ := w
  exact ⟨x, y, h.trans hx, hw, hy⟩

theorem Works.after {s t u : State} (w : Works s t) (h : Relinked t u) : Works s u := by
  obtain ⟨x, y, hx, hw, hy⟩ := w
  exact ⟨x, y, hx, hw, hy.trans h⟩

theorem works_dispatch (s : State) (f : Frame) : Works s (s.dispatch f) := by
  unfold State.dispatch State.decodeAndAct
  dsimp only
  split
  · exact .link (relinked_lnk s _)
  · exact .link (relinked_lnk s _)
  · exact .of (relinked_lnk s _) (.act _ _) (relinked_lnk _ _)

theorem works_dispatchWaiting (s : State) : Works s s.dispatchWaiting := by
  unfold State.dispatchWaiting
  split
  · exact works_dispatch s _
  · exact .work (.none s)

theorem works_frameArrives (s : State) (f : Frame) : Works s (s.frameArrives f) := by
  unfold State.frameArrives
  split
  · exact .work (.none s)
  · exact .after (.before (relinked_lnk s _) (works_dispatchWaiting _)) (relinked_kick _)

theorem works_receiveByte (s : State) (b : Byte) (e : Bool) : Works s (s.receiveByte b e) := by
  unfold State.receiveByte
  dsimp only
  split
  · exact .work (.none s)
  · split
    · exact .link (relinked_lnk s _)
    · split
      · exact .link (relinked_lnk s _)
      · exact .before (relinked_lnk s _) (works_frameArrives _ _)

theorem works_halt (s : State) : Works s s.halt := by
  unfold State.halt
  split
  · exact .work (.none s)
  · exact .of (relinked_lnk s _) (.halt _) (.refl _)

theorem works_breakEnd (s : State) : Works s s.breakEnd := by
  unfold State.breakEnd
  split
  · exact .link (relinked_lnk s _)
  · exact .work (.none s)

theorem works_replyEnd (s : State) : Works s s.replyEnd := by
  unfold State.replyEnd
  split
  · split
    · exact .work (.restart s)
    · exact .after (.before (relinked_lnk s _) (works_dispatchWaiting _)) (relinked_chooseFrame _)
  · exact .work (.none s)
  · exact .work (.none s)

theorem works_traceEnd (s : State) : Works s s.traceEnd := by
  unfold State.traceEnd
  split
  · exact .after (.work (.traceSent s)) (relinked_chooseFrame _)
  · exact .work (.none s)
  · exact .work (.none s)

/-- Every command that is not a request does one work: the events by their kinds, and a frame by its dispatch. -/
theorem works_exec (c : Instr) (s t : State) (h : exec c s = .next t) : Works s t := by
  have request : ∀ (r : Request) (tag : Byte),
      (.next (s.request r tag) : Host.Outcome State Fault Refusal) = .next t → Works s t := by
    rintro r tag ⟨⟩
    exact works_frameArrives s _
  cases c with
  | powerOnReset selB selA levels a b => cases h; exact .work (.powerOn s _ levels a b)
  | partTimeTick => cases h; exact .work (.tick s)
  | receiveByte b e => cases h; exact works_receiveByte s b e
  | gapTimerExpiry => cases h; exact .link (relinked_lnk s _)
  | halt => cases h; exact works_halt s
  | breakEnd => cases h; exact works_breakEnd s
  | unknownKindRequest kind tag payload => cases h; exact works_frameArrives s _
  | replyFrameEnd => cases h; exact works_replyEnd s
  | traceFrameEnd => cases h; exact works_traceEnd s
  | loadConversion raw => cases h; exact .after (.work (.loadConversion s _)) (relinked_kick _)
  | extConversion w raw => cases h; exact .work (.extConversion s w _)
  | encoderTransition a b up => cases h; exact .work (.encoderSample s a b)
  | servoExpiry => cases h; exact .work (.servoExpiry s)
  | jogLapse => cases h; exact .work (.jogLapse s)
  | pullInEnd w => cases h; exact .work (.pullInEnd s w)
  | holdPhaseEnd w => cases h; exact .work (.holdPhaseEnd s w)
  | seatTimeout w => cases h; exact .work (.seatTimeout s w)
  | releaseTimeout w => cases h; exact .work (.releaseTimeout s w)
  | rawInputChange i level us => cases h; exact .work (.rawChange s i level us)
  | debounceEnd i us => cases h; exact .work (.debounceEnd s i us)
  | _ => exact request _ _ h

/-- Every step does one work, or idles. -/
theorem works_step {s t : State} (h : step s = .next t) : Works s t := by
  unfold step at h
  split at h
  · cases h; exact .work (.none s)
  · exact .before (relinked_pending s _) (works_exec _ _ _ h)

/-- A law that the link by itself and every work keep is kept by every step. -/
theorem step_keeps {P : State → Prop} (hlink : ∀ s t, Relinked s t → P s → P t) (hwork : ∀ s t, Work s t → P s → P t)
    (s t : State) (hs : P s) (h : step s = .next t) : P t := by
  obtain ⟨u, v, hu, hw, hv⟩ := works_step h
  exact hlink v t hv (hwork u v hw (hlink s u hu hs))

/-! ### What a request can do -/

/-- The change a request makes in the blocks, with the checks that let it: none, or one of the effects of the requests. -/
inductive Acts (s : State) : State → Prop where
  | none : Acts s s
  | eventRead (n : Nat) : Acts s { s with evq := { entries := s.evq.entries.drop n, overflow := false } }
  | inputConfig (i : Input) (inverted : Bool) (written : Nat) (queued : Bool) (h : i = .estop → inverted = false) :
      Acts s (s.configureInput i inverted written queued)
  | frameConfig (c : FrameConfig) : Acts s (s.setFrameConfig c)
  | load (l : Ldc) : Acts s { s with ldc := l }
  | loadRange (m : RangeMode) : Acts s (s.setRangeMode m)
  | extConfig (f : ExtConfigFields) : Acts s { s with xtc := s.xtc.configured f }
  | extSeat (named : Bool × Bool) (h : s.testing = false) : Acts s (s.seatArms named)
  | extZero (named : Bool × Bool) (h : s.testing = false) : Acts s (s.zeroArms named)
  | extRelease (named : Bool × Bool) : Acts s (s.releaseStart named.1 named.2 true)
  | positionZero : Acts s { s with xhs := s.xhs.zeroed }
  | driveOn (h : s.dec.trips = []) : Acts s s.closeChain
  | driveOff (h : s.testing = false) (hc : s.dec.chain = .closed) : Acts s (s.openChain .driveOff)
  | tripClear : Acts s s.clearTrips
  | monitorTest (m : Option MonitorTest) : Acts s { s with xhs := { s.xhs with monitor := m } }
  | jogOff : Acts s s.jogOff
  | jogOn (speed : Int) : Acts s (s.jogOn speed)
  | moveOn (target speed : Int) : Acts s (s.moveOn target speed)
  | stop : Acts s s.stopMotion
  | stage (c : StagedCopy) : Acts s { s with tsq := { s.tsq with staged := c } }
  | commitPending (f : StagedSpec) (h : s.tsq.staged.validate s.xhs.config.frameOverload f = .none) :
      Acts s (s.holdPending (s.tsq.staged.form s.xhs.config.frameOverload f))
  | commitNow (f : StagedSpec) (h : s.tsq.staged.validate s.xhs.config.frameOverload f = .none)
      (hs : s.tsq.state.sampling = false) : Acts s (s.applyNow (s.tsq.staged.form s.xhs.config.frameOverload f))
  | testStart (p : Profile) (h : s.testing = false) (hp : s.tsq.active = some p) (hc : s.dec.chain = .closed) :
      Acts s (s.startTest p)
  | testHold (h : s.tsq.state = .running) : Acts s s.holdTest
  | testResume (h : s.tsq.state = .holding .request) : Acts s s.resumeTest
  | testAbort (h : s.testing = true) : Acts s (s.servoStop.dropPending.enterEnded .abortRequest)
  | traceOff : Acts s { s with trb := { s.trb with streaming := false } }
  | traceConfig (on : Bool) (n : Nat) (h : n ∈ decimationBases) :
      Acts s { s with trb := { s.trb with streaming := on, base := n, factor := n } }

variable (s : State)

theorem chain_closed_of_not_opened {c : ChainState} (h : ¬ c = .opened) : c = .closed := by
  cases c
  · exact absurd rfl h
  · rfl

theorem acts_inputConfig (index polarity debounce route : Byte) :
    Acts s (s.inputConfig index polarity debounce route).1 := by
  unfold State.inputConfig
  split
  · exact .none
  · split
    · split
      · exact .none
      case isFalse h => exact .inputConfig _ _ _ _ fun hi => by simpa [hi] using h
    · exact .none

theorem acts_frameConfig (f : FrameConfigFields) : Acts s (s.frameConfig f).1 := by
  unfold State.frameConfig
  split
  · exact .none
  · split
    · exact .frameConfig _
    · exact .none

theorem acts_calWrite (range : Byte) (points : List (Word × Word)) : Acts s (s.calWrite range points).1 := by
  unfold State.calWrite
  split
  · exact .none
  · split
    · exact .none
    · split
      · exact .none
      · split
        · exact .load _
        · exact .none

theorem acts_calRead (range : Byte) : Acts s (s.calRead range).1 := by
  unfold State.calRead
  split <;> exact .none

theorem acts_shuntConfig (range : Byte) (expected tolerance : Word) :
    Acts s (s.shuntConfig range expected tolerance).1 := by
  unfold State.shuntConfig
  split
  · exact .none
  · split
    · exact .none
    · split
      · exact .load _
      · exact .none

theorem acts_loadRange (mode : Byte) : Acts s (s.loadRange mode).1 := by
  unfold State.loadRange
  split
  · exact .none
  · split
    · exact .none
    · exact .loadRange _

theorem acts_tareStart : Acts s s.tareStart.1 := by
  unfold State.tareStart
  split
  · exact .none
  · split
    · exact .none
    · split
      · exact .none
      · exact .load _

theorem acts_shuntStart : Acts s s.shuntStart.1 := by
  unfold State.shuntStart
  split
  · exact .none
  · split
    · exact .none
    · split
      · exact .none
      · exact .load _

theorem acts_extConfig (f : ExtConfigFields) : Acts s (s.extConfig f).1 := by
  unfold State.extConfig
  split
  · exact .none
  · split
    · exact .extConfig f
    · exact .none

theorem acts_extSeat (select : Byte) : Acts s (s.extSeat select).1 := by
  unfold State.extSeat
  split
  · exact .none
  case isFalse ht =>
    split
    · exact .none
    · split
      · exact .extSeat _ (by simpa using ht)
      · exact .none

theorem acts_extZero (select : Byte) : Acts s (s.extZero select).1 := by
  unfold State.extZero
  split
  · exact .none
  case isFalse ht =>
    split
    · exact .none
    · split
      · exact .extZero _ (by simpa using ht)
      · exact .none

theorem acts_extRelease (select : Byte) : Acts s (s.extRelease select).1 := by
  unfold State.extRelease
  split
  · exact .none
  · exact .extRelease _

theorem acts_positionZero : Acts s s.positionZero.1 := by
  unfold State.positionZero
  split
  · exact .none
  · split
    · exact .none
    · exact .positionZero

theorem acts_driveOn : Acts s s.driveOn.1 := by
  unfold State.driveOn
  dsimp only
  split
  · exact .none
  · split
    · exact .none
    · split
      · exact .none
      case isFalse hm => exact .driveOn (by simp_all [State.missingPermissives])

theorem acts_driveOff : Acts s s.driveOff.1 := by
  unfold State.driveOff
  split
  · exact .none
  case isFalse ht =>
    split
    case isTrue hc => exact .driveOff (by simpa using ht) hc
    · exact .none

theorem acts_tripClear : Acts s s.tripClear.1 := by
  unfold State.tripClear
  dsimp only
  split
  · exact .none
  · split <;> exact .tripClear

theorem acts_monitorStart : Acts s s.monitorStart.1 := by
  unfold State.monitorStart
  split
  · exact .none
  · split
    · exact .none
    · split
      · exact .none
      · exact .monitorTest _

theorem acts_jog (speed : Word) : Acts s (s.jog speed).1 := by
  unfold State.jog
  split
  · exact .none
  · split
    · exact .none
    · split
      · exact .none
      · split
        · exact .jogOff
        · exact .jogOn _

theorem acts_moveTo (target speed : Word) : Acts s (s.moveTo target speed).1 := by
  unfold State.moveTo
  split
  · exact .none
  · split
    · exact .none
    · split
      · exact .moveOn _ _
      · exact .none

theorem acts_stop : Acts s s.stop.1 := by
  unfold State.stop
  split
  · exact .none
  · exact .stop

theorem acts_profileSpecWrite (f : SpecFields) : Acts s (s.profileSpecWrite f).1 := by
  unfold State.profileSpecWrite
  split
  · exact .none
  · exact .stage _

theorem acts_profileStepWrite (slot : Byte) (r : StepRecord) : Acts s (s.profileStepWrite slot r).1 := by
  unfold State.profileStepWrite
  split
  · split
    · exact .none
    · exact .stage _
  · exact .none

theorem acts_profileCommit : Acts s s.profileCommit.1 := by
  unfold State.profileCommit
  split
  · exact .none
  · split
    · exact .none
    · unfold State.commitSpec
      dsimp only
      split
      · exact .none
      case h_2 hv =>
        split
        · split
          · exact .none
          · exact .commitPending _ hv
        case isFalse hs => exact .commitNow _ hv (by simpa using hs)

theorem acts_testStart : Acts s s.testStart.1 := by
  unfold State.testStart
  split
  · exact .none
  case isFalse ht =>
    split
    · exact .none
    case h_2 p hp =>
      split
      · exact .none
      case isFalse hc =>
        have hstart : Acts s (s.startTest p) := .testStart p (by simpa using ht) hp (chain_closed_of_not_opened hc)
        split
        · exact .none
        · split
          · exact .none
          · split
            · exact .none
            · split
              · exact .none
              · exact hstart

theorem acts_testHold : Acts s s.testHold.1 := by
  unfold State.testHold
  split
  case h_1 h => exact .testHold h
  all_goals exact .none

theorem acts_testResume : Acts s s.testResume.1 := by
  unfold State.testResume
  split
  case h_1 h => exact .testResume h
  all_goals exact .none

theorem acts_testAbort : Acts s s.testAbort.1 := by
  unfold State.testAbort
  split
  case isTrue h => exact .testAbort h
  · exact .none

theorem acts_traceConfig (streaming base : Byte) : Acts s (s.traceConfig streaming base).1 := by
  unfold State.traceConfig
  split
  · unfold State.traceConfigTesting
    split
    · exact .traceOff
    · exact .none
  · split
    case h_1 hb =>
      refine .traceConfig _ _ ?_
      unfold baseOf at hb
      split at hb
      · cases hb; assumption
      · cases hb
    · exact .none

/-- What the owning block of a request does is one of the effects of the requests. -/
theorem acts_act (r : Request) : Acts s (s.act r).1 := by
  cases r with
  | ping _ => exact .none
  | statusRead => exact .none
  | readNow => exact .none
  | restart => exact .none
  | profileRead _ _ => exact .none
  | resultRead => exact .none
  | eventRead n =>
    simp only [State.act, State.eventRead]
    split
    · exact .none
    · exact .eventRead _
  | inputConfig index polarity debounce route => exact acts_inputConfig s index polarity debounce route
  | frameConfig f => exact acts_frameConfig s f
  | calWrite range points => exact acts_calWrite s range points
  | calRead range => exact acts_calRead s range
  | shuntConfig range expected tolerance => exact acts_shuntConfig s range expected tolerance
  | loadRange mode => exact acts_loadRange s mode
  | tare => exact acts_tareStart s
  | shuntCheck => exact acts_shuntStart s
  | extConfig f => exact acts_extConfig s f
  | extSeat select => exact acts_extSeat s select
  | extZero select => exact acts_extZero s select
  | extRelease select => exact acts_extRelease s select
  | positionZero => exact acts_positionZero s
  | driveOn => exact acts_driveOn s
  | driveOff => exact acts_driveOff s
  | tripClear => exact acts_tripClear s
  | monitorTest => exact acts_monitorStart s
  | jog speed => exact acts_jog s speed
  | moveTo target speed => exact acts_moveTo s target speed
  | stop => exact acts_stop s
  | profileSpecWrite f => exact acts_profileSpecWrite s f
  | profileStepWrite slot r => exact acts_profileStepWrite s slot r
  | profileCommit => exact acts_profileCommit s
  | testStart => exact acts_testStart s
  | testHold => exact acts_testHold s
  | testResume => exact acts_testResume s
  | testAbort => exact acts_testAbort s
  | traceConfig streaming base => exact acts_traceConfig s streaming base

/-! ### Steps and the reset state -/

/-- Settles O1: by the definition of a step. -/
theorem stepTakesFrontCommand : Obligations.StepTakesFrontCommand := by
  refine ⟨fun s c rest => rfl, fun s h => ?_⟩
  unfold step
  rw [h]

/-- Settles O2: each law by its items at the reset state. -/
theorem resetSatisfiesLaws : Obligations.ResetSatisfiesLaws := by
  refine ⟨?_, ?_, ?_, ?_, ?_⟩
  · constructor <;> decide
  · exact ⟨by decide, by decide⟩
  · exact ⟨by decide, by decide, by decide, trivial, trivial⟩
  · exact ⟨rfl, rfl, by decide, by decide, by decide⟩
  · exact fun _ => ⟨rfl, rfl⟩

end Sys2Proof.Machine
end

section
/-! SUPPORT. The laws of the drive enable chain are kept by every work, and so by every step (sections 4.3, 6.2 to 6.5, 8.5 to
8.9). -/

namespace Sys2Proof.Machine

variable {s t : State}

theorem ChainLaw.relinked (h : ChainLaw s) (hr : Relinked s t) : ChainLaw t := by
  obtain ⟨l, q, m, rfl⟩ := hr
  exact h.same rfl rfl rfl

/-! ### The inputs and the resets -/

theorem ChainLaw.deliverInput (h : ChainLaw s) (i : Input) : ChainLaw (s.deliverInput i) := by
  unfold State.deliverInput
  dsimp only
  split
  · exact (h.put _).consume _ _
  · exact h.consume _ _

theorem ChainLaw.takeLevel (h : ChainLaw s) (i : Input) : ChainLaw (s.takeLevel i) :=
  (h.same rfl rfl rfl : ChainLaw (s.setInput i _)).deliverInput i

theorem ChainLaw.rawChange (h : ChainLaw s) (i : Input) (level : Bool) (us : Fin 1000) :
    ChainLaw (s.rawChange i level us) := by
  have hset : ∀ r, ChainLaw ((s.noteTime us).setInput i r) := fun r => h.same rfl rfl rfl
  unfold State.rawChange
  dsimp only
  split
  · exact hset _
  · split
    · exact (hset _).takeLevel i
    · exact hset _

theorem ChainLaw.debounceEnd (h : ChainLaw s) (i : Input) (us : Fin 1000) : ChainLaw (s.debounceEnd i us) := by
  have hnote : ChainLaw (s.noteTime us) := h.same rfl rfl rfl
  unfold State.debounceEnd
  dsimp only
  split
  · exact hnote
  · split
    · exact hnote.takeLevel i
    · exact hnote

theorem ChainLaw.configureInput (h : ChainLaw s) (i : Input) (inverted : Bool) (written : Nat) (queued : Bool) :
    ChainLaw (s.configureInput i inverted written queued) := by
  have hset : ∀ r, ChainLaw (s.setInput i r) := fun r => h.same rfl rfl rfl
  have hdue : ∀ (u : State) (now : Instant), ChainLaw u → ChainLaw (u.takeDue i now) := by
    intro u now hu
    unfold State.takeDue
    dsimp only
    split
    · exact hu
    · split
      · exact hu.takeLevel i
      · exact hu
  unfold State.configureInput
  dsimp only
  refine (hdue _ _ ?_).same rfl rfl rfl
  split
  · exact (hset _).deliverInput i
  · exact hset _

/-- A state with the chain OPEN, no trip, the servo DISABLED at rest and no test satisfies the law. -/
theorem chainLaw_of_powerOn (hd : s.dec = .powerOn) (hm : s.xhs.mode = .disabled) (hw : s.xhs.speedWord = 0)
    (hv : s.xhs.velocity = 0) (ht : s.tsq.state = .idle) : ChainLaw s := by
  constructor <;> simp [hd, hm, hw, hv, ht, Dec.powerOn, State.testing, TestState.testing]

/-! ### The requests -/

theorem ChainLaw.jogOn (h : ChainLaw s) (speed : Int) : ChainLaw (s.jogOn speed) := by
  have hjog (hn : s.xhs.mode ≠ .disabled) : ChainLaw (s.beginJog speed) :=
    h.toMode (h.closedOfMode hn) (by simp) (by simp) (by simp)
  unfold State.jogOn
  split
  case h_1 hm => exact hjog (by simp [hm])
  case h_2 hm => exact hjog (by simp [hm])
  case h_3 hm => exact (hjog (by simp [hm])).put _
  all_goals exact h

theorem ChainLaw.comeToStill (h : ChainLaw s) (hn : s.xhs.mode ≠ .disabled) : ChainLaw s.comeToStill :=
  h.toMode (h.closedOfMode hn) (by simp [Xhs.toStill]) (by simp [Xhs.toStill]) (by simp [Xhs.toStill])

theorem ChainLaw.jogOff (h : ChainLaw s) : ChainLaw s.jogOff := by
  unfold State.jogOff
  split
  case h_1 hm => exact (h.comeToStill (by simp [hm])).put _
  case h_2 hm => exact (h.comeToStill (by simp [hm])).put _
  all_goals exact h

theorem ChainLaw.moveOn (h : ChainLaw s) (target speed : Int) : ChainLaw (s.moveOn target speed) := by
  have hmove (hn : s.xhs.mode ≠ .disabled) : ChainLaw (s.beginMove target speed) :=
    h.toMode (h.closedOfMode hn) (by simp) (by simp) (by simp)
  unfold State.moveOn
  split
  case h_1 hm => exact hmove (by simp [hm])
  case h_2 hm => exact (hmove (by simp [hm])).put _
  case h_3 hm => exact (hmove (by simp [hm])).put _
  all_goals exact h

theorem ChainLaw.stopMotion (h : ChainLaw s) : ChainLaw s.stopMotion := by
  unfold State.stopMotion
  split
  case h_1 hm => exact h
  case h_3 hm => exact h.jogOff
  case h_4 hm => exact h.jogOff
  all_goals exact h.comeToStill (by simp [*])

theorem ChainLaw.setFrameConfig (h : ChainLaw s) (c : FrameConfig) : ChainLaw (s.setFrameConfig c) := by
  have hset : ChainLaw { s with xhs := { s.xhs with config := c } } := h.congr ⟨rfl, rfl, rfl, rfl⟩ ⟨rfl, rfl, rfl⟩ rfl
  unfold State.setFrameConfig
  dsimp only
  split
  · unfold State.unproveMonitor
    split
    · exact hset.congr (by simp) (by simp [State.endMonitor]) (by simp)
    · exact hset.congr ⟨rfl, rfl, rfl, rfl⟩ ⟨rfl, rfl, rfl⟩ rfl
  · exact hset

theorem ChainLaw.testAbort (h : ChainLaw s) (ht : s.testing = true) :
    ChainLaw (s.servoStop.dropPending.enterEnded .abortRequest) := by
  have hstop : ChainLaw s.servoStop.dropPending := (h.servoStop (h.test ht)).congr ⟨rfl, rfl, rfl, rfl⟩ ⟨rfl, rfl, rfl⟩ rfl
  exact hstop.enterEnded _ (by simp [State.dropPending]) (by simp [State.dropPending])

/-- Every effect of a request keeps the law. -/
theorem ChainLaw.acts (h : ChainLaw s) (ha : Acts s t) : ChainLaw t := by
  cases ha with
  | none => exact h
  | eventRead n => exact h.same rfl rfl rfl
  | inputConfig i inverted written queued _ => exact h.configureInput i inverted written queued
  | frameConfig c => exact h.setFrameConfig c
  | load l => exact h.same rfl rfl rfl
  | loadRange m => exact h.same (by simp) (by simp) (by simp)
  | extConfig f => exact h.same rfl rfl rfl
  | extSeat named _ => exact h.same (by simp) (by simp) (by simp)
  | extZero named _ => exact h.same (by simp) (by simp) (by simp)
  | extRelease named => exact h.same (by simp) (by simp) (by simp)
  | positionZero => exact h.congr ⟨rfl, rfl, rfl, rfl⟩ ⟨rfl, rfl, rfl⟩ rfl
  | driveOn ht => exact h.closeChain ht
  | driveOff ht _ => exact h.openDriveOff ht
  | tripClear => exact h.clearTrips
  | monitorTest m => exact h.congr ⟨rfl, rfl, rfl, rfl⟩ ⟨rfl, rfl, rfl⟩ rfl
  | jogOff => exact h.jogOff
  | jogOn speed => exact h.jogOn speed
  | moveOn target speed => exact h.moveOn target speed
  | stop => exact h.stopMotion
  | stage c => exact h.congr ⟨rfl, rfl, rfl, rfl⟩ ⟨rfl, rfl, rfl⟩ rfl
  | commitPending f _ => exact h.congr ⟨rfl, rfl, rfl, rfl⟩ ⟨rfl, rfl, rfl⟩ rfl
  | commitNow f _ _ => exact h.congr (by simp) (by simp) (by simp [State.applyNow])
  | testStart p ht _ hc => exact h.startTest p ht hc
  | testHold hs => exact h.holdTest hs
  | testResume hs => exact h.resumeTest _ hs
  | testAbort ht => exact h.testAbort ht
  | traceOff => exact h.same rfl rfl rfl
  | traceConfig on n _ => exact h.same rfl rfl rfl

/-! ### Every step -/

theorem ChainLaw.work (h : ChainLaw s) (hw : Work s t) : ChainLaw t := by
  cases hw with
  | none => exact h
  | act r => exact h.acts (acts_act s r)
  | powerOn rate levels a b =>
    exact (chainLaw_of_powerOn rfl rfl rfl rfl rfl : ChainLaw (s.powerOnBlocks rate levels a b)).evaluateStart
  | restart => exact (chainLaw_of_powerOn rfl rfl rfl rfl rfl : ChainLaw s.restartBlocks).evaluateStart
  | tick => exact h.same rfl rfl rfl
  | halt => exact (h.trip .halt).same (by simp) (by simp) (by simp)
  | traceSent => exact h.same (by simp) (by simp) (by simp)
  | loadConversion c => exact h.loadConversion c
  | extConversion w c => exact h.same (by simp) (by simp) (by simp)
  | encoderSample a b => exact h.encoderSample a b
  | servoExpiry => exact h.servoExpiry
  | jogLapse => exact h.jogLapse
  | pullInEnd w => exact h.same (by simp) (by simp) (by simp)
  | holdPhaseEnd w => exact h.same (by simp) (by simp) (by simp)
  | seatTimeout w => exact h.same (by simp) (by simp) (by simp)
  | releaseTimeout w => exact h.same (by simp) (by simp) (by simp)
  | rawChange i level us => exact h.rawChange i level us
  | debounceEnd i us => exact h.debounceEnd i us

/-- Settles O3: the law is kept by each work of a command. -/
theorem stepKeepsChainLaw : Obligations.StepKeepsChainLaw :=
  step_keeps (fun _ _ hr h => h.relinked hr) (fun _ _ hw h => h.work hw)

end Sys2Proof.Machine
end

section
/-! SUPPORT. What the shared operations do with the test, the profile copies, the trace buffer and the strain source: the test
goes on with its copies, or it is over; and outside a test the source is the one of the averaging set (sections 3.5, 7.6, 8.10). -/

namespace Sys2Proof.Machine

variable {s t u : State}

/-- The test goes on, or there is still none: the copies, the step and the presence of a test are as before. -/
structure TestKept (s t : State) : Prop where
  active : t.tsq.active = s.tsq.active
  pendingCopy : t.tsq.pendingCopy = s.tsq.pendingCopy
  step : t.tsq.step = s.tsq.step
  testing : t.testing = s.testing

/-- The active and the pending copy come from those before: each is kept, or the pending copy has become active or is
dropped. -/
def CopiesFrom (s t : State) : Prop :=
  (t.tsq.active = s.tsq.active ∨ (t.tsq.active = s.tsq.pendingCopy ∧ s.tsq.pendingCopy ≠ none)) ∧
  (t.tsq.pendingCopy = s.tsq.pendingCopy ∨ t.tsq.pendingCopy = none)

theorem TestKept.copies (h : TestKept s t) : CopiesFrom s t := ⟨.inl h.active, .inl h.pendingCopy⟩

theorem CopiesFrom.trans (h : CopiesFrom s t) (h' : CopiesFrom t u) : CopiesFrom s u := by
  obtain ⟨ha, hp⟩ := h
  obtain ⟨ha', hp'⟩ := h'
  refine ⟨?_, ?_⟩
  · obtain ha' | ⟨ha', hne⟩ := ha'
    · rw [ha']; exact ha
    · obtain hp | hp := hp
      · rw [hp] at ha' hne; exact .inr ⟨ha', hne⟩
      · exact absurd hp hne
  · obtain hp' | hp' := hp'
    · rw [hp']; exact hp
    · exact .inr hp'

/-- What an operation does that takes no step boundary, makes no record and serves no request: the trace buffer and the law
of the source are kept, and the test is kept or over. -/
structure Flows (s t : State) : Prop where
  trb : t.trb = s.trb
  source : SourceLaw s → SourceLaw t
  test : TestKept s t ∨ (t.testing = false ∧ CopiesFrom s t)

theorem TestKept.of_tsq (h : t.tsq = s.tsq) : TestKept s t := by
  constructor <;> simp only [State.testing, h]

theorem Flows.copies (h : Flows s t) : CopiesFrom s t := h.test.elim TestKept.copies And.right

theorem Flows.refl (s : State) : Flows s s := ⟨rfl, id, .inl (.of_tsq rfl)⟩

theorem Flows.trans (h : Flows s t) (h' : Flows t u) : Flows s u := by
  refine ⟨h'.trb.trans h.trb, h'.source ∘ h.source, ?_⟩
  have hcopies := h.copies.trans h'.copies
  obtain hk' | ⟨hover', _⟩ := h'.test
  · obtain hk | ⟨hover, _⟩ := h.test
    · exact .inl ⟨hk'.active.trans hk.active, hk'.pendingCopy.trans hk.pendingCopy, hk'.step.trans hk.step,
        hk'.testing.trans hk.testing⟩
    · exact .inr ⟨hk'.testing.trans hover, hcopies⟩
  · exact .inr ⟨hover', hcopies⟩

/-- In a test state the law of the source asks nothing. -/
theorem sourceLaw_of_testing (h : s.testing = true) : SourceLaw s := fun hn => by simp [h] at hn

theorem SourceLaw.congr (h : SourceLaw s) (ht : t.testing = s.testing) (hx : t.xtc = s.xtc)
    (hs : t.smp.source = s.smp.source) (ho : t.smp.sourceOffset = s.smp.sourceOffset) : SourceLaw t := by
  intro hn
  obtain ⟨h1, h2⟩ := h (ht.symm.trans hn)
  simp only [State.averagingSet, hx, hs, ho]
  exact ⟨h1, h2⟩

/-- An operation that leaves the test, the arms, the source and the trace buffer. -/
theorem Flows.of_frame (ht : TestKept s t) (hx : t.xtc = s.xtc) (hs : t.smp = s.smp) (hb : t.trb = s.trb) : Flows s t :=
  ⟨hb, fun h => h.congr ht.testing hx (by rw [hs]) (by rw [hs]), .inl ht⟩

theorem Flows.put (s : State) (e : Event) : Flows s (s.put e) :=
  .of_frame (.of_tsq (by simp)) (by simp) (by simp) (by simp)

/-- An operation on the arms, after which the source is told. -/
theorem Flows.of_arms (ht : t.tsq = s.tsq) (hb : t.trb = s.trb) (hs : SourceLaw t) : Flows s t :=
  ⟨hb, fun _ => hs, .inl (.of_tsq ht)⟩

/-! ### The strain source (R56 to R61) -/

theorem setSource_source (x : StrainSource) (o : Int) (c : SourceCause) (s : State) :
    (s.setSource x o c).smp = { s.smp with source := x, sourceOffset := o } := by
  unfold State.setSource
  dsimp only
  split <;> simp

theorem averagingSet_congr (h : t.xtc = s.xtc) : t.averagingSet = s.averagingSet := by simp only [State.averagingSet, h]

/-- The source follows the averaging set (R56). -/
theorem sourceLaw_followSet (c : SourceCause) (s : State) : SourceLaw (s.followSet c) := by
  intro _
  have hset : (s.followSet c).averagingSet = s.averagingSet := averagingSet_congr (by simp)
  rw [hset, State.followSet, setSource_source]
  exact ⟨rfl, rfl⟩

theorem sourceLaw_sourceAtTestEnd (s : State) : SourceLaw s.sourceAtTestEnd :=
  (sourceLaw_followSet .testEnd s).congr rfl rfl rfl rfl

/-- The part is in a test state exactly when it was: the test state alone decides. -/
theorem testing_congr (h : t.tsq = s.tsq) : t.testing = s.testing := by simp only [State.testing, h]

theorem sourceLaw_sourceAtArmChange (s : State) : SourceLaw s.sourceAtArmChange := by
  by_cases h : s.testing = true
  · exact sourceLaw_of_testing ((testing_congr (by simp)).trans h)
  · rw [State.sourceAtArmChange, if_neg h]; exact sourceLaw_followSet _ _

theorem sourceLaw_sourceAtExclusion (b : Bool × Bool) (s : State) : SourceLaw (s.sourceAtExclusion b) := by
  by_cases h : s.testing = true
  · exact sourceLaw_of_testing ((testing_congr (by simp)).trans h)
  · rw [State.sourceAtExclusion, if_neg h]; exact sourceLaw_followSet _ _

theorem sourceLaw_sourceAtRelease (b : Bool × Bool) (s : State) : SourceLaw (s.sourceAtRelease b) := by
  by_cases h : s.testing = true
  · exact sourceLaw_of_testing ((testing_congr (by simp)).trans h)
  · rw [State.sourceAtRelease, if_neg h]; exact sourceLaw_followSet _ _

/-! ### The arms (chapter Extensometer Arms) -/

theorem Flows.excludeArm (s : State) (w : Arm) (c : ExclusionCause) : Flows s (s.excludeArm w c) :=
  .of_arms (by simp) (by simp) (sourceLaw_sourceAtExclusion _ _)

theorem Flows.releaseStart (s : State) (a b r : Bool) : Flows s (s.releaseStart a b r) :=
  .of_arms (by simp) (by simp) (sourceLaw_sourceAtRelease _ _)

/-- A change of one arm's record that keeps its state. -/
theorem Flows.setArm (s : State) (w : Arm) (r : ArmRec) (h : r.state = (s.arm w).state) : Flows s (s.setArm w r) := by
  have hset : (s.setArm w r).averagingSet = s.averagingSet := by
    cases w <;> simp_all [State.averagingSet, State.setArm, ArmRec.inSet, State.arm]
  refine ⟨by simp, fun hs hn => ?_, .inl (.of_tsq (by simp))⟩
  rw [hset, setArm_smp]
  exact hs ((testing_congr (setArm_tsq s w r)).symm.trans hn)

/-- A change of one arm's state that is told to SMP. -/
theorem Flows.armChange (s : State) (w : Arm) (r : ArmRec) : Flows s (s.changeArm w r).sourceAtArmChange :=
  .of_arms (by simp) (by simp) (sourceLaw_sourceAtArmChange _)

theorem Flows.seatChanged (s : State) (w : Arm) (closed : Bool) : Flows s (s.seatChanged w closed) := by
  unfold State.seatChanged
  dsimp only
  split
  · exact .armChange s w _
  · exact .excludeArm s w _
  · exact .excludeArm s w _
  · exact .excludeArm s w _
  · exact .armChange s w _
  · exact .refl s

theorem Flows.pullInEnd (s : State) (w : Arm) : Flows s (s.pullInEnd w) := by
  unfold State.pullInEnd
  split
  · split
    · exact .setArm s w _ rfl
    · exact .refl s
  · exact .refl s
  · exact .refl s

theorem Flows.holdPhaseEnd (s : State) (w : Arm) : Flows s (s.holdPhaseEnd w) := by
  unfold State.holdPhaseEnd
  split
  · exact .setArm s w _ rfl
  · exact .refl s
  · exact .refl s

theorem Flows.seatTimeout (s : State) (w : Arm) : Flows s (s.seatTimeout w) := by
  unfold State.seatTimeout
  dsimp only
  split
  · exact .armChange s w _
  · exact .refl s

theorem Flows.releaseTimeout (s : State) (w : Arm) : Flows s (s.releaseTimeout w) := by
  unfold State.releaseTimeout
  dsimp only
  split
  · exact .armChange s w _
  · exact .refl s

theorem Flows.zeroConversion (s : State) (w : Arm) (c : Int) : Flows s (s.zeroConversion w c) := by
  unfold State.zeroConversion
  dsimp only
  split
  · exact .armChange s w _
  · split
    · exact .refl s
    · split
      · exact .armChange s w _
      · exact .setArm s w _ rfl

theorem flagged_state (r : ArmRec) (c : Int) : (r.flagged c).state = r.state := by
  unfold ArmRec.flagged
  split
  · split <;> rfl
  · rfl

theorem Flows.zeroedConversion (s : State) (w : Arm) (c : Int) : Flows s (s.zeroedConversion w c) := by
  unfold State.zeroedConversion
  dsimp only
  split
  · split
    · exact .excludeArm s w _
    · split
      · exact .setArm s w _ rfl
      · exact .refl s
  · exact .setArm s w _ (flagged_state _ c)

theorem Flows.extConversion (s : State) (w : Arm) (c : Int) : Flows s (s.extConversion w c) := by
  have hraw : Flows s (s.setArm w { s.arm w with lastRaw := some c }) := .setArm s w _ rfl
  unfold State.extConversion
  dsimp only
  split
  · exact hraw.trans (.zeroConversion _ w c)
  · exact hraw.trans (.zeroedConversion _ w c)
  all_goals exact hraw

/-! ### The end of a test (R139, R163) -/

theorem copiesFrom_applyPending (s : State) (w : AppliedAt) : CopiesFrom s (s.applyPending w) := by
  unfold State.applyPending
  split
  case h_1 => exact ⟨.inl rfl, .inl rfl⟩
  case h_2 p hp => exact ⟨.inr ⟨by simp [hp], by simp [hp]⟩, .inr (by simp)⟩

theorem copiesFrom_settlePending (s : State) (r : EndReason) : CopiesFrom s (s.settlePending r) := by
  unfold State.settlePending
  split
  · exact ⟨.inl rfl, .inr rfl⟩
  all_goals exact copiesFrom_applyPending s _

theorem Flows.enterEnded (s : State) (r : EndReason) : Flows s (s.enterEnded r) := by
  have hcopies : CopiesFrom s (s.enterEnded r) := by
    have h := copiesFrom_settlePending { s with tsq := { s.tsq with state := .ended r } } r
    simpa [State.enterEnded, CopiesFrom] using h
  refine ⟨by simp, fun _ => ?_, .inr ⟨by simp [State.testing, TestState.testing], hcopies⟩⟩
  have hresult : ∀ u : State, SourceLaw (u.sourceAtTestEnd.resEnd r) := fun u =>
    (sourceLaw_sourceAtTestEnd u).congr (testing_congr (by simp)) (by simp) (by simp) (by simp)
  exact hresult _

theorem Flows.returnEnded (s : State) : Flows s s.returnEnded := by
  unfold State.returnEnded
  split
  · exact .enterEnded s _
  · exact .refl s

/-- The state of a test goes from one test state to another. -/
theorem Flows.setTest (s : State) (x : TestState) (h : x.testing = s.testing) :
    Flows s { s with tsq := { s.tsq with state := x } } := .of_frame ⟨rfl, rfl, rfl, h⟩ rfl rfl rfl

theorem Flows.enterTest (s : State) (x : TestState) (h : x.testing = s.testing) : Flows s (s.enterTest x) :=
  (Flows.setTest s x h).trans (.put _ _)

theorem Flows.softLimitHold (s : State) : Flows s s.softLimitHold := by
  unfold State.softLimitHold
  split
  case isTrue h => exact .enterTest s _ (by simp [State.testing, h, TestState.testing])
  case isFalse => exact .refl s

/-- A change of blocks other than the arms, the sample, the test and the trace buffer. -/
theorem Flows.blocks (s : State) (dio : Dio) (evq : Evq) (ldc : Ldc) (xhs : Xhs) (dec : Dec) (res : Res) (lnk : Lnk) :
    Flows s { s with dio := dio, evq := evq, ldc := ldc, xhs := xhs, dec := dec, res := res, lnk := lnk } :=
  .of_frame (.of_tsq rfl) rfl rfl rfl

/-! ### The chain (R70, R112, R113, R162) -/

theorem Flows.testChainOpened (s : State) (c : OpenCause) : Flows s (s.testChainOpened c) := by
  unfold State.testChainOpened
  split
  · exact .enterEnded s _
  · exact .enterEnded s _
  · exact .enterEnded s _
  · exact .refl s

theorem servoDisable_smp_tsq (s : State) : s.servoDisable.smp = s.smp ∧ s.servoDisable.xtc = s.xtc := by
  unfold State.servoDisable
  dsimp only
  split <;> simp

theorem Flows.servoDisable (s : State) : Flows s s.servoDisable :=
  .of_frame (.of_tsq (by simp)) (servoDisable_smp_tsq s).2 (servoDisable_smp_tsq s).1 (by simp)

theorem Flows.openChain (s : State) (c : OpenCause) : Flows s (s.openChain c) := by
  have hdec : Flows s { s with dec := { s.dec with chain := .opened, guardMode := false } } := .blocks s _ _ _ _ _ _ _
  exact (hdec.trans (.put _ _)).trans ((Flows.servoDisable _).trans (.testChainOpened _ c))

theorem Flows.trip (s : State) (c : TripCause) : Flows s (s.trip c) := by
  unfold State.trip
  dsimp only
  split
  · exact .refl s
  · split
    · exact (Flows.blocks s _ _ _ _ _ _ _).trans ((Flows.put _ _).trans (.openChain _ _))
    · exact (Flows.blocks s _ _ _ _ _ _ _).trans (.put _ _)

theorem Flows.reportOverload (s : State) : Flows s s.reportOverload :=
  (Flows.blocks s s.dio s.evq s.ldc s.xhs _ s.res s.lnk).trans (.trip _ _)

theorem Flows.guardOpened (s : State) : Flows s s.guardOpened := by
  unfold State.guardOpened
  split
  · split
    · exact .trip s _
    · exact .blocks s _ _ _ _ _ _ _
  · exact .refl s

theorem Flows.gripOpened (s : State) : Flows s s.gripOpened := by
  unfold State.gripOpened
  split
  · exact .trip s _
  · exact .refl s

theorem Flows.consume (s : State) (i : Input) (asserted : Bool) : Flows s (s.consume i asserted) := by
  unfold State.consume
  split
  · exact .trip s _
  · exact .refl s
  · exact .trip s _
  · exact .refl s
  · exact .guardOpened s
  · exact .blocks s _ _ _ _ _ _ _
  · exact .trip s _
  · exact .blocks s _ _ _ _ _ _ _
  · exact .trip s _
  · exact .blocks s _ _ _ _ _ _ _
  · exact .gripOpened s
  · exact .refl s
  · exact .gripOpened s
  · exact .refl s
  · exact .seatChanged s .a _
  · exact .seatChanged s .b _
  · exact .refl s

/-! ### The inputs (R96 to R99) -/

theorem Flows.deliverInput (s : State) (i : Input) : Flows s (s.deliverInput i) := by
  unfold State.deliverInput
  dsimp only
  split
  · exact (Flows.put _ _).trans (.consume _ i _)
  · exact .consume s i _

theorem Flows.setInput (s : State) (i : Input) (r : InputRec) : Flows s (s.setInput i r) := .blocks s _ _ _ _ _ _ _

theorem Flows.takeLevel (s : State) (i : Input) : Flows s (s.takeLevel i) :=
  (Flows.setInput s i _).trans (.deliverInput _ i)

theorem Flows.noteTime (s : State) (us : Fin 1000) : Flows s (s.noteTime us) := .blocks s _ _ _ _ _ _ _

theorem Flows.rawChange (s : State) (i : Input) (level : Bool) (us : Fin 1000) : Flows s (s.rawChange i level us) := by
  unfold State.rawChange
  dsimp only
  split
  · exact (Flows.noteTime s us).trans (.setInput _ i _)
  · split
    · exact ((Flows.noteTime s us).trans (.setInput _ i _)).trans (.takeLevel _ i)
    · exact (Flows.noteTime s us).trans (.setInput _ i _)

theorem Flows.debounceEnd (s : State) (i : Input) (us : Fin 1000) : Flows s (s.debounceEnd i us) := by
  unfold State.debounceEnd
  dsimp only
  split
  · exact .noteTime s us
  · split
    · exact (Flows.noteTime s us).trans (.takeLevel _ i)
    · exact .noteTime s us

theorem Flows.takeDue (s : State) (i : Input) (now : Instant) : Flows s (s.takeDue i now) := by
  unfold State.takeDue
  dsimp only
  split
  · exact .refl s
  · split
    · exact .takeLevel s i
    · exact .refl s

theorem Flows.configureInput (s : State) (i : Input) (inverted : Bool) (written : Nat) (queued : Bool) :
    Flows s (s.configureInput i inverted written queued) := by
  unfold State.configureInput
  dsimp only
  refine Flows.trans (Flows.trans ?_ (.takeDue _ i _)) (.blocks _ _ _ _ _ _ _ _)
  split
  · exact (Flows.setInput s i _).trans (.deliverInput _ i)
  · exact .setInput s i _

/-! ### The servo (chapter Crosshead Servo) -/

theorem Flows.xhs (s : State) (x : Xhs) : Flows s { s with xhs := x } := .blocks s _ _ _ x _ _ _

theorem Flows.moveArrived (s : State) : Flows s s.moveArrived := by
  unfold State.moveArrived
  dsimp only
  split
  · exact (Flows.xhs s _).trans (.returnEnded _)
  · exact (Flows.xhs s _).trans (.put _ _)

theorem Flows.moveExpiry (s : State) : Flows s s.moveExpiry.1 := by
  unfold State.moveExpiry
  split
  · exact .refl s
  · dsimp only
    split
    · exact (Flows.xhs s _).trans ((Flows.moveArrived _).trans (.xhs _ _))
    · exact .xhs s _

theorem Flows.formCommand (s : State) : Flows s s.formCommand.1 := by
  unfold State.formCommand
  split
  · exact .refl s
  · exact .xhs s _
  · exact .xhs s _
  · exact .moveExpiry s
  · exact .moveExpiry s
  · split <;> exact .xhs s _

theorem Flows.applyEscape (c : State × Int) : Flows c.1 (State.applyEscape c).1 := by
  unfold State.applyEscape
  split
  · unfold State.restDemand
    dsimp only
    split
    · split
      · exact .xhs _ _
      · exact .refl _
    · exact .xhs _ _
  · exact .refl _

theorem Flows.softLimitEffect (s : State) (upper : Bool) : Flows s (s.softLimitEffect upper) := by
  unfold State.softLimitEffect
  split
  · exact .refl s
  · exact .refl s
  · exact (Flows.xhs s _).trans (.put _ _)
  · exact .refl s
  · exact (Flows.xhs s _).trans ((Flows.put _ _).trans (.softLimitHold _))
  · exact (Flows.xhs s _).trans ((Flows.put _ _).trans (.returnEnded _))

theorem Flows.softLimits (c : State × Int) : Flows c.1 (State.softLimits c).1 := by
  unfold State.softLimits
  split
  · exact (Flows.xhs _ _).trans (.softLimitEffect _ _)
  · exact .refl _

theorem Flows.checkTracking (s : State) : Flows s s.checkTracking := by
  unfold State.checkTracking
  dsimp only
  split
  · exact (Flows.xhs s _).trans (.trip _ _)
  · exact .xhs s _

theorem Flows.activeExpiry (s : State) : Flows s s.activeExpiry := by
  have hcommand : Flows s s.commandStages.1 :=
    ((Flows.formCommand s).trans (.applyEscape _)).trans (Flows.softLimits ((State.applyEscape s.formCommand).1,
      (State.applyEscape s.formCommand).1.clampSpeed (State.applyEscape s.formCommand).2))
  have hdrive : Flows s.commandStages.1 (State.driveSpeed s.commandStages) := .xhs _ _
  exact (hcommand.trans hdrive).trans ((Flows.checkTracking _).trans (.xhs _ _))

theorem Flows.disabledExpiry (s : State) : Flows s s.disabledExpiry := by
  unfold State.disabledExpiry State.monitorExpiry
  dsimp only
  split
  · exact .xhs s _
  · split
    · exact (Flows.xhs s _).trans (.put _ _)
    · exact .xhs s _

theorem Flows.servoExpiry (s : State) : Flows s s.servoExpiry := by
  unfold State.servoExpiry
  split
  · exact .disabledExpiry s
  · exact .activeExpiry s

theorem Flows.jogLapse (s : State) : Flows s s.jogLapse := by
  unfold State.jogLapse
  split
  · exact (Flows.xhs s _).trans (.put _ _)
  · exact .refl s

theorem Flows.encoderSample (s : State) (a b : Bool) : Flows s (s.encoderSample a b) := by
  unfold State.encoderSample
  dsimp only
  split
  · exact .xhs s _
  · exact (Flows.xhs s _).trans (.trip _ _)
  · exact .xhs s _

/-! ### The load channel (chapter Load Channel) -/

theorem Flows.testOverload (s : State) (k : LoadClass) (c : Int) (r : LoadResult) : Flows s (s.testOverload k c r) := by
  unfold State.testOverload
  split
  · split
    · exact .refl s
    · exact .reportOverload s
  · split
    · split
      · exact .reportOverload s
      · exact .blocks s _ _ _ _ _ _ _
    · exact .refl s

/-- After the overload test a conversion changes LDC and the event queue alone. -/
theorem Flows.convertLoad (s : State) (c : Int) : Flows s (s.convertLoad c).1 := by
  let t := State.testOverload (s.loadClass c) c (s.loadResult (s.loadClass c) c)
    { s with ldc := s.ldc.afterResult (s.loadClass c) (s.loadResult (s.loadClass c) c) }
  have htest : Flows s t := (Flows.blocks s _ _ _ _ _ _ _).trans (.testOverload _ _ c _)
  refine htest.trans (.of_frame (.of_tsq ?_) ?_ ?_ ?_) <;> simp [State.convertLoad, t]

end Sys2Proof.Machine
end

section
/-! SUPPORT. The bounds and laws that every step keeps: the event queue and the trace buffer, the decimation factor, the debounce
times, the order of the records, the strain source; and the active copy within a step (sections 2.8, 3.5, 5.2, 5.8, 7.6, 10.2,
10.3). -/

namespace Sys2Proof.Machine

variable {s t u : State}

/-! ### A sample, its breaks and its step boundaries (R148 to R160) -/

theorem testing_of_sampling (h : s.tsq.state.sampling = true) : s.testing = true := by
  unfold State.testing
  cases hs : s.tsq.state <;> simp_all [TestState.sampling, TestState.testing]

theorem Flows.tsqItems (s : State) (x : Tsq) (h : x.state = s.tsq.state) (ha : x.active = s.tsq.active)
    (hp : x.pendingCopy = s.tsq.pendingCopy) (hk : x.step = s.tsq.step) : Flows s { s with tsq := x } :=
  .of_frame ⟨ha, hp, hk, by simp [State.testing, h]⟩ rfl rfl rfl

theorem Flows.breakRelease (s : State) : Flows s s.breakRelease := by
  unfold State.breakRelease
  split
  · exact .releaseStart s _ _ _
  · exact .refl s

theorem Flows.afterBreak (s : State) (h : s.testing = true) : Flows s s.afterBreak := by
  have hreturn : ∀ v, Flows s (s.enterReturning v) := fun v => (Flows.enterTest s .returning h.symm).trans (.xhs _ _)
  unfold State.afterBreak
  split
  · split
    · exact hreturn _
    · exact .enterEnded s _
  · exact .enterEnded s _

theorem Flows.resBreak (s : State) (f : Option Word) : Flows s (s.resBreak f) :=
  .of_frame (.of_tsq (by simp)) (by simp) (by simp) (by simp)

theorem Flows.breakDetected (s : State) (h : s.testing = true) : Flows s s.breakDetected := by
  unfold State.breakDetected
  dsimp only
  generalize Option.map (fun x : LoadedSample => x.index) s.tsq.prevLoaded = f
  let found : State := { s with tsq := { s.tsq with breakFound := true, fracture := f } }
  have hfound : Flows s found := .tsqItems s _ rfl rfl rfl rfl
  have hstop : Flows s found.servoStop := hfound.trans (.xhs found _)
  have hbreak : ∀ e : Event, Flows s ((found.servoStop.breakRelease.resBreak f).put e) := fun e =>
    ((hstop.trans (.breakRelease found.servoStop)).trans (.resBreak _ f)).trans (.put _ e)
  have hkept : ∀ e : Event, ((found.servoStop.breakRelease.resBreak f).put e).tsq = found.tsq := fun e => by
    simp [State.servoStop]
  refine (hbreak _).trans (.afterBreak _ ?_)
  exact (testing_congr (hkept _)).trans h

/-- A step boundary that begins a next step. -/
structure StepBegun (s t : State) : Prop where
  copies : CopiesFrom s t
  testing : t.testing = s.testing
  step : t.tsq.step ≠ s.tsq.step

/-- What TSQ does with a sample: the test is kept, or it is over, or a next step has begun. -/
inductive Takes (s t : State) : Prop where
  | flows (h : Flows s t)
  | begun (hb : t.trb = s.trb) (hs : SourceLaw s → SourceLaw t) (h : StepBegun s t)

theorem Takes.trb (h : Takes s t) : t.trb = s.trb := by
  cases h with
  | flows h => exact h.trb
  | begun hb _ _ => exact hb

theorem Takes.source (h : Takes s t) : SourceLaw s → SourceLaw t := by
  cases h with
  | flows h => exact h.source
  | begun _ hs _ => exact hs

theorem Takes.copies (h : Takes s t) : CopiesFrom s t := by
  cases h with
  | flows h => exact h.copies
  | begun _ _ h => exact h.copies

/-- A test that goes on after the sample went on before it. -/
theorem Takes.testing (h : Takes s t) (ht : t.testing = true) : s.testing = true := by
  cases h with
  | flows h =>
    obtain hk | ⟨hover, _⟩ := h.test
    · exact hk.testing.symm.trans ht
    · simp [ht] at hover
  | begun _ _ h => exact h.testing.symm.trans ht

/-- In a test that goes on in its step the active copy stays. -/
theorem Takes.active (h : Takes s t) (ht : t.testing = true) (hk : t.tsq.step = s.tsq.step) :
    t.tsq.active = s.tsq.active := by
  cases h with
  | flows h =>
    obtain hkept | ⟨hover, _⟩ := h.test
    · exact hkept.active
    · simp [ht] at hover
  | begun _ _ h => exact absurd hk h.step

/-- What a sample does, after an operation that leaves the test in a test state. -/
theorem Takes.after (h : Flows s t) (ht : t.testing = true) (h' : Takes t u) : Takes s u := by
  cases h' with
  | flows h' => exact .flows (h.trans h')
  | begun hb hs hstep =>
    obtain hk | ⟨hover, _⟩ := h.test
    · exact .begun (hb.trans h.trb) (hs ∘ h.source)
        ⟨h.copies.trans hstep.copies, hstep.testing.trans hk.testing, by rw [← hk.step]; exact hstep.step⟩
    · simp [ht] at hover

theorem Flows.stepRelease (s : State) : Flows s s.stepRelease := by
  unfold State.stepRelease
  split
  · split
    · exact .releaseStart s _ _ _
    · exact .refl s
  · exact .refl s

theorem testing_applyPending (s : State) (w : AppliedAt) : (s.applyPending w).testing = s.testing := by
  simp [State.testing]

theorem applyPending_step (s : State) (w : AppliedAt) : (s.applyPending w).tsq.step = s.tsq.step := by
  unfold State.applyPending
  split <;> simp

theorem sourceLaw_applyPending (w : AppliedAt) (h : SourceLaw s) : SourceLaw (s.applyPending w) :=
  h.congr (testing_applyPending s w) (by simp) (by simp) (by simp)

theorem succ_getD_ne (k : Option Nat) : some (k.getD 0 + 1) ≠ k := by
  cases k <;> simp

/-- A step boundary begins the next step, or the test is over (R151). -/
theorem Takes.stepBoundary (s : State) : Takes s s.stepBoundary := by
  unfold State.stepBoundary
  have hrelease := Flows.stepRelease s
  have htsq : s.stepRelease.tsq = s.tsq := by simp
  generalize s.stepRelease = r at hrelease htsq ⊢
  have happlied : CopiesFrom s (r.applyPending .boundary) := hrelease.copies.trans (copiesFrom_applyPending r _)
  have hsource : SourceLaw s → SourceLaw (r.applyPending .boundary) := fun h =>
    sourceLaw_applyPending _ (hrelease.source h)
  have htrb : (r.applyPending .boundary).trb = s.trb := by simpa using hrelease.trb
  have hstep : (r.applyPending .boundary).tsq.step = s.tsq.step := by rw [applyPending_step, htsq]
  have htesting : (r.applyPending .boundary).testing = s.testing := by rw [testing_applyPending, testing_congr htsq]
  generalize r.applyPending .boundary = a at happlied hsource htrb hstep htesting ⊢
  unfold State.nextStep
  dsimp only
  split
  · refine .begun (by simpa [State.servoBegin] using htrb) (fun h => ?_) ⟨?_, ?_, ?_⟩
    · exact (hsource h).congr (by simp [State.testing, State.servoBegin]) (by simp [State.servoBegin])
        (by simp [State.servoBegin]) (by simp [State.servoBegin])
    · simpa [CopiesFrom, State.servoBegin] using happlied
    · rw [← htesting]; simp [State.testing, State.servoBegin]
    · rw [← hstep]
      simpa [State.servoBegin] using succ_getD_ne a.tsq.step
  · have hend : Flows a (a.servoStop.enterEnded .lastStep) := (Flows.xhs a _).trans (.enterEnded _ _)
    refine .flows ⟨hend.trb.trans htrb, hend.source ∘ hsource, .inr ⟨?_, happlied.trans hend.copies⟩⟩
    simp [State.testing, TestState.testing]

theorem Flows.notePrevious (s : State) (m : Sample) : Flows s (s.notePrevious m) := by
  unfold State.notePrevious
  split
  · exact .tsqItems s _ rfl rfl rfl rfl
  · exact .refl s

theorem Takes.testTake (s : State) (m : Sample) (found : Bool) : Takes s (s.testTake m found) := by
  unfold State.testTake
  split
  · exact .flows (.refl s)
  case h_2 hs =>
    have hcount : Flows s s.countStep := .tsqItems s _ rfl rfl rfl rfl
    have htesting : s.countStep.testing = true := by simp [State.testing, State.countStep, hs, TestState.testing]
    unfold State.runningTake
    dsimp only
    split
    · exact .flows (hcount.trans (.breakDetected _ htesting))
    · have hnote := hcount.trans (.notePrevious _ m)
      split
      · refine .after hnote ?_ (.stepBoundary _)
        simpa [State.testing] using htesting
      · exact .flows hnote
  case h_3 c hs =>
    have htesting : s.testing = true := by simp [State.testing, hs, TestState.testing]
    unfold State.holdingTake
    split
    · exact .flows (.breakDetected s htesting)
    · exact .flows (.notePrevious s m)
  · exact .flows (.refl s)
  · exact .flows (.refl s)

theorem Flows.resTake (s : State) (m : Sample) : Flows s (s.resTake m) :=
  .of_frame (.of_tsq (by simp)) (by simp) (by simp) (by simp)

/-- A load conversion: what LDC, SMP, RES and TSQ do, and then TRB takes the sample (R2, R49). -/
theorem takes_loadConversion (s : State) (c : Int) : ∃ u m, Takes s u ∧ s.loadConversion c = u.traceTake m := by
  have hconvert := Flows.convertLoad s c
  unfold State.loadConversion State.sampleLoad
  dsimp only
  generalize (s.convertLoad c).2 = r
  generalize (s.convertLoad c).1 = v at hconvert ⊢
  generalize v.composeSample r (v.composeBasis r.load) = m
  have hstore : Flows v (v.storeSample m (v.composeBasis r.load)) :=
    ⟨rfl, fun h => h.congr rfl rfl rfl rfl, .inl (.of_tsq rfl)⟩
  have hstored := hconvert.trans hstore
  generalize v.storeSample m (v.composeBasis r.load) = w at hstored ⊢
  unfold State.deliver
  dsimp only
  split
  case isTrue hs =>
    refine ⟨_, m, .after (hstored.trans (.resTake w m)) ?_ (.testTake _ m _), rfl⟩
    exact (testing_congr (by simp)).trans (testing_of_sampling hs)
  case isFalse => exact ⟨w, m, .flows hstored, rfl⟩

/-! ### The requests -/

/-- The requests that do more than let the test, the trace buffer and the source flow. -/
inductive Requested (s : State) : State → Prop where
  | commitPending (f : StagedSpec) (h : s.tsq.staged.validate s.xhs.config.frameOverload f = .none) :
      Requested s (s.holdPending (s.tsq.staged.form s.xhs.config.frameOverload f))
  | commitNow (f : StagedSpec) (h : s.tsq.staged.validate s.xhs.config.frameOverload f = .none)
      (hs : s.tsq.state.sampling = false) : Requested s (s.applyNow (s.tsq.staged.form s.xhs.config.frameOverload f))
  | testStart (p : Profile) (h : s.testing = false) (hp : s.tsq.active = some p) (hc : s.dec.chain = .closed) :
      Requested s (s.startTest p)
  | traceConfig (on : Bool) (base factor : Nat)
      (h : (base = s.trb.base ∧ factor = s.trb.factor) ∨ (base = factor ∧ base ∈ decimationBases)) :
      Requested s { s with trb := { s.trb with streaming := on, base := base, factor := factor } }

theorem Flows.testAbort (s : State) : Flows s (s.servoStop.dropPending.enterEnded .abortRequest) := by
  have hend := Flows.enterEnded s.servoStop.dropPending .abortRequest
  have hdrop : CopiesFrom s s.servoStop.dropPending := ⟨.inl rfl, .inr rfl⟩
  refine ⟨hend.trb, fun h => hend.source (h.congr rfl rfl rfl rfl), .inr ⟨?_, hdrop.trans hend.copies⟩⟩
  simp [State.testing, TestState.testing]

theorem configured_averagingSet (s : State) (f : ExtConfigFields) :
    ({ s with xtc := s.xtc.configured f } : State).averagingSet = s.averagingSet := rfl

theorem Flows.resumeTest (s : State) (h : s.testing = true) : Flows s s.resumeTest := by
  unfold State.resumeTest
  dsimp only
  split
  · exact (Flows.xhs s _).trans (.enterTest _ _ h.symm)
  · exact .enterTest s _ h.symm

/-- An operation on XHS and the event queue. -/
theorem Flows.of_servo (hx : t.xtc = s.xtc) (hs : t.smp = s.smp) (ht : t.tsq = s.tsq) (hb : t.trb = s.trb) :
    Flows s t := .of_frame (.of_tsq ht) hx hs hb

theorem flows_or_requested (ha : Acts s t) : Flows s t ∨ Requested s t := by
  cases ha with
  | none => exact .inl (.refl s)
  | eventRead n => exact .inl (.blocks s _ _ _ _ _ _ _)
  | inputConfig i inverted written queued _ => exact .inl (.configureInput s i inverted written queued)
  | frameConfig c => exact .inl (.of_servo (by simp) (by simp) (by simp) (by simp))
  | load l => exact .inl (.blocks s _ _ _ _ _ _ _)
  | loadRange m => exact .inl (.of_servo (by simp) (by simp) (by simp) (by simp))
  | extConfig f => exact .inl ⟨rfl, id, .inl (.of_tsq rfl)⟩
  | extSeat named _ => exact .inl (.of_arms (by simp) (by simp) (sourceLaw_sourceAtArmChange _))
  | extZero named _ => exact .inl (.of_arms (by simp) (by simp) (sourceLaw_sourceAtArmChange _))
  | extRelease named => exact .inl (.releaseStart s _ _ _)
  | positionZero => exact .inl (.xhs s _)
  | driveOn _ => exact .inl (.of_servo (by simp) (by simp) (by simp) (by simp))
  | driveOff _ _ => exact .inl (.openChain s _)
  | tripClear => exact .inl (.of_servo (by simp) (by simp) (by simp) (by simp))
  | monitorTest m => exact .inl (.xhs s _)
  | jogOff => exact .inl (.of_servo (by simp) (by simp) (by simp) (by simp))
  | jogOn speed => exact .inl (.of_servo (by simp) (by simp) (by simp) (by simp))
  | moveOn target speed => exact .inl (.of_servo (by simp) (by simp) (by simp) (by simp))
  | stop => exact .inl (.of_servo (by simp) (by simp) (by simp) (by simp))
  | stage c => exact .inl (.tsqItems s _ rfl rfl rfl rfl)
  | commitPending f h => exact .inr (.commitPending f h)
  | commitNow f h hs => exact .inr (.commitNow f h hs)
  | testStart p h hp hc => exact .inr (.testStart p h hp hc)
  | testHold h => exact .inl ((Flows.xhs s _).trans (.enterTest _ _ (by simp [State.testing, h, TestState.testing])))
  | testResume h => exact .inl (.resumeTest s (by simp [State.testing, h, TestState.testing]))
  | testAbort _ => exact .inl (.testAbort s)
  | traceOff => exact .inr (.traceConfig false s.trb.base s.trb.factor (.inl ⟨rfl, rfl⟩))
  | traceConfig on n h => exact .inr (.traceConfig on n n (.inr ⟨rfl, h⟩))

/-! ### What a work does -/

/-- The works by what they do with the test, the trace buffer and the source. -/
inductive Kinds (s t : State) : Prop where
  | flows (h : Flows s t)
  | requested (h : Requested s t)
  | sampled (u : State) (m : Sample) (h : Takes s u) (ht : t = u.traceTake m)
  | sent (h : t = s.traceSent)
  | powerOn (rate : BitVec 2) (levels : BitVec 10) (a b : Bool) (h : Flows (s.powerOnBlocks rate levels a b) t)
  | restart (h : Flows s.restartBlocks t)

theorem Flows.evaluateStart (s : State) : Flows s s.evaluateStart := by
  have hunless : ∀ (u : State) (b : Bool) (c : TripCause), Flows u (if b then u else u.trip c) := by
    intro u b c
    split
    exacts [.refl u, .trip u c]
  have hwhen : ∀ (u : State) (b : Bool) (c : TripCause), Flows u (if b then u.trip c else u) := by
    intro u b c
    split
    exacts [.trip u c, .refl u]
  exact ((hunless s _ .estop).trans (hwhen _ _ .limitUp)).trans (hwhen _ _ .limitDown)

theorem kinds_of_work (hw : Work s t) : Kinds s t := by
  cases hw with
  | none => exact .flows (.refl s)
  | act r => exact (flows_or_requested (acts_act s r)).elim .flows .requested
  | powerOn rate levels a b => exact .powerOn rate levels a b (.evaluateStart _)
  | restart => exact .restart (.evaluateStart _)
  | tick => exact .flows (.blocks s _ _ _ _ _ _ _)
  | halt => exact .flows ((Flows.trip s .halt).trans (.of_servo (by simp) (by simp) (by simp) (by simp)))
  | traceSent => exact .sent rfl
  | loadConversion c =>
    obtain ⟨u, m, h, ht⟩ := takes_loadConversion s c
    exact .sampled u m h ht
  | extConversion w c => exact .flows (.extConversion s w c)
  | encoderSample a b => exact .flows (.encoderSample s a b)
  | servoExpiry => exact .flows (.servoExpiry s)
  | jogLapse => exact .flows (.jogLapse s)
  | pullInEnd w => exact .flows (.pullInEnd s w)
  | holdPhaseEnd w => exact .flows (.holdPhaseEnd s w)
  | seatTimeout w => exact .flows (.seatTimeout s w)
  | releaseTimeout w => exact .flows (.releaseTimeout s w)
  | rawChange i level us => exact .flows (.rawChange s i level us)
  | debounceEnd i us => exact .flows (.debounceEnd s i us)

end Sys2Proof.Machine
end

section
/-! SUPPORT. The five laws of O4 and the active copy of O56 over every work. -/

namespace Sys2Proof.Machine

variable {s t u : State}

/-! ### A servo expiry leaves DIO and the bound of the event queue -/

@[simp] theorem moveExpiry_dio_bounded (s : State) :
    s.moveExpiry.1.dio = s.dio ∧ (s.moveExpiry.1.evq.bounded ↔ s.evq.bounded) := by
  unfold State.moveExpiry
  split
  · exact ⟨rfl, .rfl⟩
  · dsimp only
    split
    · simp [State.stillExpiry]
    · exact ⟨rfl, .rfl⟩

@[simp] theorem formCommand_dio_bounded (s : State) :
    s.formCommand.1.dio = s.dio ∧ (s.formCommand.1.evq.bounded ↔ s.evq.bounded) := by
  unfold State.formCommand
  split
  · exact ⟨rfl, .rfl⟩
  · exact ⟨rfl, .rfl⟩
  · exact ⟨rfl, .rfl⟩
  · exact moveExpiry_dio_bounded s
  · exact moveExpiry_dio_bounded s
  · split <;> exact ⟨rfl, .rfl⟩

@[simp] theorem applyEscape_dio_bounded (c : State × Int) :
    (State.applyEscape c).1.dio = c.1.dio ∧ ((State.applyEscape c).1.evq.bounded ↔ c.1.evq.bounded) := by
  unfold State.applyEscape
  split <;> simp

@[simp] theorem softLimits_dio_bounded (c : State × Int) :
    (State.softLimits c).1.dio = c.1.dio ∧ ((State.softLimits c).1.evq.bounded ↔ c.1.evq.bounded) := by
  unfold State.softLimits
  split <;> simp

@[simp] theorem servoExpiry_dio_bounded (s : State) :
    s.servoExpiry.dio = s.dio ∧ (s.servoExpiry.evq.bounded ↔ s.evq.bounded) := by
  unfold State.servoExpiry
  split
  · simp
  · simp [State.activeExpiry, State.driveSpeed, State.commandStages]

/-! ### The event queue and the trace buffer (R103, R193) -/

theorem evq_bounded_of_acts (ha : Acts s t) (h : s.evq.bounded) : t.evq.bounded := by
  cases ha with
  | eventRead n =>
    have hlen : s.evq.entries.length ≤ eventCapacity := h
    simp only [Evq.bounded, List.length_drop]
    omega
  | testAbort _ => simpa [State.servoStop, State.dropPending] using h
  | _ => simpa using h

theorem started_bounded (byRestart : Bool) : (Evq.started byRestart).bounded := by
  simp [Evq.started, Evq.bounded, eventCapacity]

theorem evq_bounded_of_work (hw : Work s t) (h : s.evq.bounded) : t.evq.bounded := by
  cases hw with
  | act r => exact evq_bounded_of_acts (acts_act s r) h
  | powerOn rate levels a b => exact (evaluateStart_bounded _).mpr (started_bounded false)
  | restart => exact (evaluateStart_bounded _).mpr (started_bounded true)
  | _ => simpa using h

@[simp] theorem startTest_trb (s : State) (p : Profile) :
    (s.startTest p).trb = s.trb.started p.spec.traceBase.toNat := by
  simp [State.startTest, State.startRecords]

/-- A request that leaves the records of the buffer leaves the test; otherwise it empties the buffer (R199). -/
theorem Requested.buffer (h : Requested s t) :
    (t.trb.buffer = s.trb.buffer ∧ t.trb.lastIndex = s.trb.lastIndex ∧ t.testing = s.testing) ∨ t.trb.buffer = [] := by
  cases h with
  | commitPending f _ => exact .inl ⟨rfl, rfl, rfl⟩
  | commitNow f _ _ => exact .inl (by simp [State.testing, State.applyNow])
  | testStart p _ _ _ => exact .inr (by simp [Trb.started])
  | traceConfig on base factor _ => exact .inl ⟨rfl, rfl, rfl⟩

@[simp] theorem doubleFactor_buffer (s : State) :
    s.doubleFactor.trb.buffer = s.trb.buffer ∧ s.doubleFactor.trb.lastIndex = s.trb.lastIndex ∧
    s.doubleFactor.trb.base = s.trb.base := by
  unfold State.doubleFactor
  split <;> simp

@[simp] theorem halveFactor_buffer (s : State) :
    s.halveFactor.trb.buffer = s.trb.buffer ∧ s.halveFactor.trb.lastIndex = s.trb.lastIndex ∧
    s.halveFactor.trb.base = s.trb.base := by
  unfold State.halveFactor
  split <;> simp

/-- A stored record is the newest of the buffer; at a full buffer it is discarded (R193). -/
theorem storeRecord_buffer (m : Sample) (s : State) :
    (s.storeRecord m).trb.lastIndex = s.trb.lastIndex ∧
    ((s.storeRecord m).trb.buffer = s.trb.buffer ∨
     (s.trb.buffer.length < traceCapacity ∧ ∃ r : TraceRecord, r.sample = m ∧
       (s.storeRecord m).trb.buffer = s.trb.buffer ++ [r])) := by
  unfold State.storeRecord
  split
  case isTrue h => exact ⟨by simp, .inr ⟨h, ⟨m, s.trb.gap, s.trb.factor⟩, rfl, by simp⟩⟩
  case isFalse => exact ⟨rfl, .inl rfl⟩

theorem noteIndex_buffer (m : Sample) (s : State) : (s.noteIndex m).trb.buffer = s.trb.buffer := by
  unfold State.noteIndex
  split <;> rfl

theorem traceTake_buffer_le (m : Sample) (s : State) (h : s.trb.buffer.length ≤ traceCapacity) :
    (s.traceTake m).trb.buffer.length ≤ traceCapacity := by
  unfold State.traceTake
  split
  · obtain ⟨_, hb | ⟨hlt, r, _, hb⟩⟩ := storeRecord_buffer m (s.noteIndex m)
    · rw [hb, noteIndex_buffer]; exact h
    · rw [hb, List.length_append, List.length_singleton]
      exact hlt
  · exact h

/-- The end of a trace frame leaves the records, or takes the oldest away (R195). -/
theorem traceSent_buffer (s : State) :
    (s.traceSent.trb.buffer = s.trb.buffer ∨ s.traceSent.trb.buffer = s.trb.buffer.tail) ∧
    s.traceSent.trb.lastIndex = s.trb.lastIndex := by
  unfold State.traceSent
  split <;> simp

theorem powerOn_trb (h : Flows (s.powerOnBlocks rate levels a b) t) : t.trb = Trb.powerOn := h.trb

theorem restart_trb (h : Flows s.restartBlocks t) : t.trb = Trb.powerOn := h.trb

theorem buffer_le_of_work (hw : Work s t) (h : s.trb.buffer.length ≤ traceCapacity) :
    t.trb.buffer.length ≤ traceCapacity := by
  cases kinds_of_work hw with
  | flows hf => rw [hf.trb]; exact h
  | requested hr =>
    obtain ⟨hb, _⟩ | hb := hr.buffer
    · rw [hb]; exact h
    · simp [hb]
  | sampled u m hu ht => rw [ht]; exact traceTake_buffer_le m u (by rw [hu.trb]; exact h)
  | sent ht =>
    subst ht
    obtain ⟨hb | hb, _⟩ := traceSent_buffer s
    · rw [hb]; exact h
    · rw [hb, List.length_tail]; omega
  | powerOn rate levels a b hf => rw [powerOn_trb hf]; exact Nat.zero_le _
  | restart hf => rw [restart_trb hf]; exact Nat.zero_le _

theorem queueLaw_of_work (hw : Work s t) (h : QueueLaw s) : QueueLaw t := by
  obtain ⟨hevq, htrb⟩ := h
  exact ⟨evq_bounded_of_work hw hevq, buffer_le_of_work hw htrb⟩

/-! ### The decimation factor and the base (R196) -/

/-- The base and the factor: both of the seven bases, the base not above the factor. -/
def FactorLaw (b : Trb) : Prop := b.base ∈ decimationBases ∧ b.factor ∈ decimationBases ∧ b.base ≤ b.factor

theorem traceLaw_iff (s : State) :
    TraceLaw s ↔ FactorLaw s.trb ∧ baseHeld s.tsq.active ∧ baseHeld s.tsq.pendingCopy := by
  simp only [TraceLaw, FactorLaw, and_assoc]

theorem double_mem_decimationBases : ∀ d ∈ decimationBases, d < 64 → d * 2 ∈ decimationBases := by decide

theorem half_mem_decimationBases :
    ∀ b ∈ decimationBases, ∀ d ∈ decimationBases, b < d → d / 2 ∈ decimationBases ∧ b ≤ d / 2 := by decide

theorem factorLaw_doubleFactor (h : FactorLaw s.trb) : FactorLaw s.doubleFactor.trb := by
  obtain ⟨hb, hf, hle⟩ := h
  unfold State.doubleFactor
  split
  case isTrue hd => exact ⟨by simpa using hb, by simpa using double_mem_decimationBases _ hf hd.2, by simp; omega⟩
  case isFalse => exact ⟨hb, hf, hle⟩

theorem factorLaw_halveFactor (h : FactorLaw s.trb) : FactorLaw s.halveFactor.trb := by
  obtain ⟨hb, hf, hle⟩ := h
  unfold State.halveFactor
  split
  case isTrue hd =>
    obtain ⟨hmem, hge⟩ := half_mem_decimationBases _ hb _ hf hd.2
    exact ⟨by simpa using hb, by simpa using hmem, by simpa using hge⟩
  case isFalse => exact ⟨hb, hf, hle⟩

theorem factorLaw_traceTake (m : Sample) (h : FactorLaw s.trb) : FactorLaw (s.traceTake m).trb := by
  have hnote : FactorLaw (s.noteIndex m).trb := by
    unfold State.noteIndex
    split <;> exact h
  unfold State.traceTake
  split
  · unfold State.storeRecord
    split
    · exact factorLaw_doubleFactor hnote
    · exact hnote
  · exact h

theorem factorLaw_traceSent (h : FactorLaw s.trb) : FactorLaw s.traceSent.trb := by
  unfold State.traceSent
  split
  · exact h
  · exact factorLaw_halveFactor h
  · exact h

theorem factorLaw_of_base (b : Nat) (h : b ∈ decimationBases) (x : Trb) (hb : x.base = b) (hf : x.factor = b) :
    FactorLaw x := ⟨hb ▸ h, hf ▸ h, by rw [hb, hf]⟩

/-- A list of checks has no first failure exactly when every check passes (R134). -/
theorem firstFailure_eq_none_iff (l : List FieldCheck) : firstFailure l = none ↔ ∀ c ∈ l, c.ok = true := by
  induction l with
  | nil => simp [firstFailure]
  | cons c l ih =>
    cases hc : c.ok <;> simp [firstFailure, hc, ih]

theorem spec_checks_of_validate {w : Int} {f : StagedSpec} {c : StagedCopy} (h : c.validate w f = none) :
    ∀ k ∈ f.checks w, k.ok = true := by
  rw [← firstFailure_eq_none_iff]
  unfold StagedCopy.validate at h
  split at h
  · simp at h
  · assumption

/-- A profile formed from a staged copy that passes names one of the seven bases. -/
theorem baseHeld_form {w : Int} {f : StagedSpec} {c : StagedCopy} (h : c.validate w f = none) :
    baseHeld (some (c.form w f)) := by
  have hcheck := spec_checks_of_validate h ⟨21, (baseOf f.traceBase).isSome⟩ (by simp [StagedSpec.checks])
  have hmem : f.traceBase.toNat ∈ decimationBases := by
    unfold baseOf at hcheck
    split at hcheck
    · assumption
    · simp at hcheck
  simpa [baseHeld, StagedCopy.form, StagedSpec.resolve] using hmem

theorem CopiesFrom.baseHeld (h : CopiesFrom s t) (ha : baseHeld s.tsq.active) (hp : baseHeld s.tsq.pendingCopy) :
    baseHeld t.tsq.active ∧ baseHeld t.tsq.pendingCopy := by
  obtain ⟨h1, h2⟩ := h
  refine ⟨?_, ?_⟩
  · obtain h1 | ⟨h1, _⟩ := h1
    · rw [h1]; exact ha
    · rw [h1]; exact hp
  · obtain h2 | h2 := h2
    · rw [h2]; exact hp
    · rw [h2]; trivial

theorem Flows.guardAtStart (s : State) : Flows s s.guardAtStart := by
  unfold State.guardAtStart
  split
  exacts [.refl s, .trip s _]

theorem startTest_copies (s : State) (p : Profile) : CopiesFrom s (s.startTest p) := by
  have hbegun : CopiesFrom s
      (((((s.startSequence.put (.test .running)).startSource p).startRecords p).beginFirst p).put (.step 0)) := by
    constructor <;> simp [State.startRecords, State.startSequence]
  exact hbegun.trans (Flows.guardAtStart _).copies

theorem traceLaw_of_requested (hr : Requested s t) (h : TraceLaw s) : TraceLaw t := by
  rw [traceLaw_iff] at h ⊢
  obtain ⟨hfactor, hactive, hpending⟩ := h
  cases hr with
  | commitPending f hv => exact ⟨hfactor, hactive, baseHeld_form hv⟩
  | commitNow f hv _ =>
    refine ⟨by simpa using hfactor, ?_, ?_⟩
    · simpa [State.applyNow] using baseHeld_form hv
    · simpa [State.applyNow] using hpending
  | testStart p _ hp _ =>
    refine ⟨?_, (startTest_copies s p).baseHeld hactive hpending⟩
    rw [startTest_trb]
    rw [hp] at hactive
    exact factorLaw_of_base _ hactive _ rfl rfl
  | traceConfig on base factor hb =>
    refine ⟨?_, hactive, hpending⟩
    obtain ⟨rfl, rfl⟩ | ⟨rfl, hmem⟩ := hb
    · exact hfactor
    · exact factorLaw_of_base _ hmem _ rfl rfl

theorem factorLaw_powerOn : FactorLaw Trb.powerOn := factorLaw_of_base 1 (by decide) _ rfl rfl

theorem traceLaw_of_work (hw : Work s t) (h : TraceLaw s) : TraceLaw t := by
  have hlaw := (traceLaw_iff s).mp h
  obtain ⟨hfactor, hactive, hpending⟩ := hlaw
  have keep : ∀ {u v : State}, FactorLaw v.trb → CopiesFrom u v → baseHeld u.tsq.active → baseHeld u.tsq.pendingCopy →
      TraceLaw v := fun hf hc ha hp => (traceLaw_iff _).mpr ⟨hf, hc.baseHeld ha hp⟩
  cases kinds_of_work hw with
  | flows hf => exact keep (by rw [hf.trb]; exact hfactor) hf.copies hactive hpending
  | requested hr => exact traceLaw_of_requested hr h
  | sampled u m hu ht =>
    subst ht
    refine keep (factorLaw_traceTake m (by rw [hu.trb]; exact hfactor)) ?_ hactive hpending
    have hcopies := hu.copies
    simpa [CopiesFrom] using hcopies
  | sent ht => subst ht; exact keep (factorLaw_traceSent hfactor) (by simp [CopiesFrom]) hactive hpending
  | powerOn rate levels a b hf => exact keep (by rw [powerOn_trb hf]; exact factorLaw_powerOn) hf.copies trivial trivial
  | restart hf => exact keep (by rw [restart_trb hf]; exact factorLaw_powerOn) hf.copies hactive trivial

/-! ### The debounce times (R97) -/

/-- What R97 asks of the configuration of one input. -/
def InputRec.lawful (i : Input) (r : InputRec) : Prop :=
  match i with
  | .estop => r.debounce = 1 ∧ r.inverted = false
  | .guard => r.debounce ≤ 5
  | .limitUp => r.debounce ≤ 5
  | .limitDown => r.debounce ≤ 5
  | _ => True

/-- The debounce times of a set of inputs are those of R97. -/
def Inputs.lawful (v : Inputs) : Prop := ∀ i, (v.get i).lawful i

theorem debounceLaw_iff (s : State) : DebounceLaw s ↔ s.dio.inputs.lawful := by
  constructor
  · rintro ⟨h1, h2, h3, h4, h5⟩ i
    cases i
    exacts [⟨h1, h2⟩, h3, h4, h5, trivial, trivial, trivial, trivial, trivial, trivial]
  · intro h
    obtain ⟨h1, h2⟩ := h .estop
    exact ⟨h1, h2, h .guard, h .limitUp, h .limitDown⟩

@[simp] theorem get_put_same (v : Inputs) (i : Input) (r : InputRec) : (v.put i r).get i = r := by
  cases i <;> rfl

theorem get_put_of_ne (v : Inputs) {i j : Input} (r : InputRec) (h : j ≠ i) : (v.put i r).get j = v.get j := by
  cases i <;> cases j <;> simp_all [Inputs.put, Inputs.get]

theorem Inputs.lawful.put {v : Inputs} (h : v.lawful) (i : Input) {r : InputRec} (hr : r.lawful i) :
    (v.put i r).lawful := by
  intro j
  by_cases hj : j = i
  · subst hj; rw [get_put_same]; exact hr
  · rw [get_put_of_ne v r hj]; exact h j

/-- A record with the configuration of a lawful one is lawful. -/
theorem InputRec.lawful.of_config {i : Input} {r r' : InputRec} (h : r.lawful i) (hd : r'.debounce = r.debounce)
    (hv : r'.inverted = r.inverted) : r'.lawful i := by
  cases i <;> simp_all [InputRec.lawful]

theorem lawful_debounceInForce (i : Input) (written : Nat) (r : InputRec) (hd : r.debounce = debounceInForce i written)
    (hv : i = .estop → r.inverted = false) : r.lawful i := by
  cases i <;> simp_all [InputRec.lawful, debounceInForce]

theorem lawful_settled {v : Inputs} (h : v.lawful) : v.settled.lawful := by
  have hget : ∀ i, v.settled.get i = (v.get i).settled := by intro i; cases i <;> rfl
  intro i
  rw [hget]
  exact (h i).of_config rfl rfl

theorem lawful_powerOn (levels : BitVec 10) : (Inputs.powerOn levels).lawful := by
  have hget : ∀ i, ∃ raw, (Inputs.powerOn levels).get i = .powerOn i raw := by intro i; cases i <;> exact ⟨_, rfl⟩
  intro i
  obtain ⟨raw, hr⟩ := hget i
  rw [hr]
  exact lawful_debounceInForce i 10 _ rfl fun _ => rfl

theorem lawful_takeLevel (i : Input) (h : s.dio.inputs.lawful) : (s.takeLevel i).dio.inputs.lawful := by
  unfold State.takeLevel
  simp only [deliverInput_frame]
  exact h.put i ((h i).of_config rfl rfl)

theorem lawful_takeDue (i : Input) (now : Instant) (h : s.dio.inputs.lawful) :
    (s.takeDue i now).dio.inputs.lawful := by
  unfold State.takeDue
  dsimp only
  split
  · exact h
  · split
    · exact lawful_takeLevel i h
    · exact h

theorem lawful_rawChange (i : Input) (level : Bool) (us : Fin 1000) (h : s.dio.inputs.lawful) :
    (s.rawChange i level us).dio.inputs.lawful := by
  have hset : ∀ p : Option Instant, ((s.noteTime us).setInput i { (s.noteTime us).dio.inputs.get i with
      raw := level, pendingSince := p }).dio.inputs.lawful := fun p => h.put i ((h i).of_config rfl rfl)
  unfold State.rawChange
  dsimp only
  split
  · exact hset _
  · split
    · exact lawful_takeLevel i (hset _)
    · exact hset _

theorem lawful_debounceEnd (i : Input) (us : Fin 1000) (h : s.dio.inputs.lawful) :
    (s.debounceEnd i us).dio.inputs.lawful := by
  unfold State.debounceEnd
  dsimp only
  split
  · exact h
  · split
    · exact lawful_takeLevel (s := s.noteTime us) i h
    · exact h

theorem lawful_configureInput (i : Input) (inverted : Bool) (written : Nat) (queued : Bool)
    (hi : i = .estop → inverted = false) (h : s.dio.inputs.lawful) :
    (s.configureInput i inverted written queued).dio.inputs.lawful := by
  have hset : (s.setInput i { s.dio.inputs.get i with
      inverted := inverted, debounce := debounceInForce i written, queued := queued }).dio.inputs.lawful :=
    h.put i (lawful_debounceInForce i written _ rfl hi)
  unfold State.configureInput
  dsimp only
  refine lawful_takeDue i _ ?_
  split
  · simpa using hset
  · exact hset

theorem lawful_of_acts (ha : Acts s t) (h : s.dio.inputs.lawful) : t.dio.inputs.lawful := by
  cases ha with
  | inputConfig i inverted written queued hi => exact lawful_configureInput i inverted written queued hi h
  | testAbort _ => simpa [State.servoStop, State.dropPending] using h
  | _ => simpa using h

theorem debounceLaw_of_work (hw : Work s t) (h : DebounceLaw s) : DebounceLaw t := by
  rw [debounceLaw_iff] at h ⊢
  cases hw with
  | act r => exact lawful_of_acts (acts_act s r) h
  | powerOn rate levels a b =>
    simp only [State.powerOn, evaluateStart_frame]
    exact lawful_powerOn levels
  | restart =>
    simp only [State.restart, evaluateStart_frame]
    exact lawful_settled h
  | rawChange i level us => exact lawful_rawChange i level us h
  | debounceEnd i us => exact lawful_debounceEnd i us h
  | tick => exact h
  | _ => simpa using h

/-! ### The order of the records (R192, R193) -/

/-- The records of the buffer have strictly rising sample indexes, none above the last test index. -/
def Trb.ordered (b : Trb) : Prop :=
  List.Pairwise (fun a b : TraceRecord => a.sample.index.toNat < b.sample.index.toNat) b.buffer ∧
  ∀ r ∈ b.buffer, ∃ i : Word, b.lastIndex = some i ∧ r.sample.index.toNat ≤ i.toNat

theorem Trb.ordered.congr {b c : Trb} (h : b.ordered) (hb : c.buffer = b.buffer) (hi : c.lastIndex = b.lastIndex) :
    c.ordered := by
  simpa only [Trb.ordered, hb, hi] using h

theorem Trb.ordered.tail {b c : Trb} (h : b.ordered) (hb : c.buffer = b.buffer.tail) (hi : c.lastIndex = b.lastIndex) :
    c.ordered := by
  obtain ⟨hpair, hlast⟩ := h
  refine ⟨by rw [hb]; exact hpair.tail, fun r hr => ?_⟩
  rw [hb] at hr
  rw [hi]
  exact hlast r (List.mem_of_mem_tail hr)

theorem ordered_of_empty {b : Trb} (h : b.buffer = []) : b.ordered := by
  simp [Trb.ordered, h]

/-- In a test state a due record has an index above those of the buffer (R192). -/
theorem index_lt_of_recordDue {m : Sample} (ht : s.testing = true) (hd : s.recordDue m = true) (h : s.trb.ordered) :
    ∀ r ∈ s.trb.buffer, r.sample.index.toNat < m.index.toNat := by
  intro r hr
  obtain ⟨_, hlast⟩ := h
  obtain ⟨i, hi, hle⟩ := hlast r hr
  have hlt : i.toNat < m.index.toNat := by
    simp only [State.recordDue, ht, hi, Bool.and_eq_true, Bool.not_true, Bool.false_or, decide_eq_true_eq] at hd
    exact hd.2
  omega

theorem ordered_traceTake (m : Sample) (ht : s.testing = true) (h : s.trb.ordered) : (s.traceTake m).trb.ordered := by
  unfold State.traceTake
  split
  case isFalse => exact h
  case isTrue hd =>
    have hrise := index_lt_of_recordDue ht hd h
    obtain ⟨hpair, _⟩ := h
    have hbuffer := noteIndex_buffer m s
    have hindex : (s.noteIndex m).trb.lastIndex = some m.index := by simp [State.noteIndex, ht]
    obtain ⟨hi, hb | ⟨_, r, rfl, hb⟩⟩ := storeRecord_buffer m (s.noteIndex m)
    all_goals rw [hbuffer] at hb; rw [hindex] at hi
    · refine ⟨by rw [hb]; exact hpair, fun r hr => ⟨_, hi, ?_⟩⟩
      rw [hb] at hr
      exact (hrise r hr).le
    · refine ⟨?_, fun x hx => ⟨_, hi, ?_⟩⟩
      · rw [hb, List.pairwise_append]
        exact ⟨hpair, List.pairwise_singleton _ _, fun x hx y hy => by rw [List.mem_singleton.mp hy]; exact hrise x hx⟩
      · rw [hb, List.mem_append, List.mem_singleton] at hx
        obtain hx | rfl := hx
        · exact (hrise x hx).le
        · exact le_rfl

theorem Flows.testing (h : Flows s t) (ht : t.testing = true) : s.testing = true := (Takes.flows h).testing ht

theorem testing_of_sameTest (h : t.tsq = s.tsq) (ht : t.testing = true) : s.testing = true :=
  (testing_congr h).symm.trans ht

/-- A test that a work leaves in a test state was in one before, or TEST_START has emptied the buffer. -/
theorem ordered_of_work (hw : Work s t) (h : s.testing = true → s.trb.ordered) (ht : t.testing = true) :
    t.trb.ordered := by
  cases kinds_of_work hw with
  | flows hf => rw [hf.trb]; exact h (hf.testing ht)
  | requested hr =>
    obtain ⟨hb, hi, hsame⟩ | hb := hr.buffer
    · exact (h (hsame ▸ ht)).congr hb hi
    · exact ordered_of_empty hb
  | sampled u m hu hm =>
    subst hm
    have hut : u.testing = true := testing_of_sameTest (by simp) ht
    exact ordered_traceTake m hut (by rw [hu.trb]; exact h (hu.testing hut))
  | sent hm =>
    subst hm
    have hst := h (testing_of_sameTest (by simp) ht)
    obtain ⟨hb | hb, hi⟩ := traceSent_buffer s
    · exact hst.congr hb hi
    · exact hst.tail hb hi
  | powerOn rate levels a b hf => rw [powerOn_trb hf]; exact ordered_of_empty rfl
  | restart hf => rw [restart_trb hf]; exact ordered_of_empty rfl

/-! ### The strain source (R56) -/

theorem sourceLaw_powerOn (rate : BitVec 2) (levels : BitVec 10) (a b : Bool) :
    SourceLaw (s.powerOnBlocks rate levels a b) := fun _ => ⟨rfl, rfl⟩

theorem sourceLaw_restart : SourceLaw s.restartBlocks := fun _ => ⟨rfl, rfl⟩

theorem sourceLaw_startTest (s : State) (p : Profile) : SourceLaw (s.startTest p) := by
  refine (Flows.guardAtStart _).source (sourceLaw_of_testing ?_)
  simp [State.testing, State.startRecords, State.startSequence, TestState.testing]

theorem sourceLaw_of_work (hw : Work s t) (h : SourceLaw s) : SourceLaw t := by
  cases kinds_of_work hw with
  | flows hf => exact hf.source h
  | requested hr =>
    cases hr with
    | commitPending f _ => exact h
    | commitNow f _ _ => exact h.congr (by simp [State.testing, State.applyNow]) (by simp) (by simp) (by simp)
    | testStart p _ _ _ => exact sourceLaw_startTest s p
    | traceConfig on base factor _ => exact h
  | sampled u m hu hm =>
    subst hm
    exact (hu.source h).congr (testing_congr (by simp)) (by simp) (by simp) (by simp)
  | sent hm => subst hm; exact h.congr (testing_congr (by simp)) (by simp) (by simp) (by simp)
  | powerOn rate levels a b hf => exact hf.source (sourceLaw_powerOn rate levels a b)
  | restart hf => exact hf.source sourceLaw_restart

/-! ### What the link does by itself -/

theorem baseFree_link {P : State → Prop} (h : ∀ (l : Lnk) (q : List Instr) (m : InFlight) (s : State), P s → P (s.relinked l q m))
    (s t : State) (hr : Relinked s t) (hs : P s) : P t := by
  obtain ⟨l, q, m, rfl⟩ := hr
  exact h l q m s hs

/-- Settles O4: the link by itself changes nothing that the five laws speak of, and every work keeps each of them. -/
theorem stepKeepsBounds : Obligations.StepKeepsBounds := by
  refine ⟨?_, ?_, ?_, ?_, ?_⟩
  · exact step_keeps (baseFree_link fun _ _ _ _ h => h) fun _ _ hw h => queueLaw_of_work hw h
  · exact step_keeps (baseFree_link fun _ _ _ _ h => h) fun _ _ hw h => traceLaw_of_work hw h
  · exact step_keeps (baseFree_link fun _ _ _ _ h => h) fun _ _ hw h => debounceLaw_of_work hw h
  · exact step_keeps (P := fun s => s.testing = true → s.trb.ordered) (baseFree_link fun _ _ _ _ h => h)
      fun _ _ hw h => ordered_of_work hw h
  · exact step_keeps (baseFree_link fun _ _ _ _ h => h) fun _ _ hw h => sourceLaw_of_work hw h

/-! ### The active copy within a step (section 7.6) -/

theorem not_testing_of_idle (h : s.tsq.state = .idle) : s.testing = false := by
  simp [State.testing, h, TestState.testing]

/-- A work that leaves a test in the same step leaves the active copy. -/
theorem active_of_work (hw : Work s t) (hs : s.tsq.state.sampling = true) (ht : t.tsq.state.sampling = true)
    (hk : t.tsq.step = s.tsq.step) : t.tsq.active = s.tsq.active := by
  have htt := testing_of_sampling ht
  cases kinds_of_work hw with
  | flows hf => exact (Takes.flows hf).active htt hk
  | requested hr =>
    cases hr with
    | commitPending f _ => rfl
    | commitNow f _ hn => simp [hs] at hn
    | testStart p hn _ _ => simp [testing_of_sampling hs] at hn
    | traceConfig on base factor _ => rfl
  | sampled u m hu hm =>
    subst hm
    have htsq : (u.traceTake m).tsq = u.tsq := by simp
    rw [htsq] at hk ⊢
    exact hu.active (testing_of_sameTest htsq htt) hk
  | sent hm => subst hm; simp
  | powerOn rate levels a b hf => exact absurd (hf.testing htt) (by simp [not_testing_of_idle (s := s.powerOnBlocks rate levels a b) rfl])
  | restart hf => exact absurd (hf.testing htt) (by simp [not_testing_of_idle (s := s.restartBlocks) rfl])

/-- Settles O56: only a step boundary, a commit outside a test, the end of a test or a reset changes the active copy. -/
theorem activeProfileHeldInStep : Obligations.ActiveProfileHeldInStep := by
  intro s t hs hstep ht hk
  obtain ⟨u, v, ⟨_, _, _, rfl⟩, hw, ⟨_, _, _, rfl⟩⟩ := works_step hstep
  exact (active_of_work hw hs ht hk :)

end Sys2Proof.Machine
end

section
/-! SUPPORT. The message link: the receiver byte by byte, the frames it completes, the halt, the requests turned away, and the
ends of frames (chapter The Message Link). -/

namespace Sys2Proof.Machine

variable {s : State}

/-! ### The receiver (R203 to R207) -/

/-- A run of one byte command and the rest. -/
theorem run_receiveByte (b : Byte) (n : Nat) (q : List Instr) (s : State) :
    Host.Core.run Sys2Proof.core (n + 1) { s with pending := .receiveByte b false :: q } =
      Host.Core.run Sys2Proof.core n (State.receiveByte b false { s with pending := q }) := rfl

/-- Outside a break a byte that completes no frame moves the receiver and nothing else (R205). -/
theorem receiveByte_of_none (b : Byte) (hb : s.lnk.inBreak = false) (h : (s.lnk.receiver.take b).2 = none) :
    s.receiveByte b false = s.setReceiver (s.lnk.receiver.take b).1 := by
  simp [State.receiveByte, hb, h]

/-- Outside a break the byte that completes a frame ends in the arrival of that frame with the receiver in HUNT (R205). -/
theorem receiveByte_of_some (b : Byte) (f : Frame) (hb : s.lnk.inBreak = false) (h : s.lnk.receiver.take b = (.hunt, some f)) :
    s.receiveByte b false = (s.setReceiver .hunt).frameArrives f := by
  simp [State.receiveByte, hb, h]

/-- The receiver position after some bytes. -/
def Receiver.after (r : Receiver) (bytes : List Byte) : Receiver := bytes.foldl (fun r b => (r.take b).1) r

/-- None of some bytes completes a frame. -/
def Receiver.quiet (r : Receiver) : List Byte → Prop
  | [] => True
  | b :: rest => (r.take b).2 = none ∧ (r.take b).1.quiet rest

theorem Receiver.after_append (r : Receiver) (l l' : List Byte) : r.after (l ++ l') = (r.after l).after l' :=
  List.foldl_append ..

theorem Receiver.quiet_append (r : Receiver) (l l' : List Byte) :
    r.quiet (l ++ l') ↔ r.quiet l ∧ (r.after l).quiet l' := by
  induction l generalizing r with
  | nil => simp [Receiver.quiet, Receiver.after]
  | cons b l ih => simp [Receiver.quiet, Receiver.after, ih, and_assoc]

/-- Bytes that complete no frame move the receiver and nothing else. -/
theorem run_quiet (bytes : List Byte) (n : Nat) (q : List Instr) (s : State) (hb : s.lnk.inBreak = false)
    (h : s.lnk.receiver.quiet bytes) :
    Host.Core.run Sys2Proof.core (bytes.length + n)
        { s with pending := bytes.map (fun b => Instr.receiveByte b false) ++ q } =
      Host.Core.run Sys2Proof.core n { s.setReceiver (s.lnk.receiver.after bytes) with pending := q } := by
  induction bytes generalizing s with
  | nil => simp [Receiver.after, State.setReceiver]
  | cons b rest ih =>
    obtain ⟨hnone, hrest⟩ := h
    rw [List.length_cons, Nat.succ_add, List.map_cons, List.cons_append, run_receiveByte, receiveByte_of_none]
    case hb => exact hb
    case h => exact hnone
    exact ih (s.setReceiver (s.lnk.receiver.take b).1) hb hrest

/-- The payload bytes after the tag, up to the last, take the receiver to the high byte of the CRC (R203). -/
theorem payload_taken (n k g : Byte) (got rest : List Byte) (hn : got.length + rest.length = n.toNat) (h : rest ≠ []) :
    (Receiver.payload n k g got).quiet rest ∧
    (Receiver.payload n k g got).after rest = .crcHigh n k g (got ++ rest) := by
  induction rest generalizing got with
  | nil => exact absurd rfl h
  | cons b rest ih =>
    cases rest with
    | nil => simp_all [Receiver.quiet, Receiver.after, Receiver.take]
    | cons c rest =>
      have hmore : got.length + 1 ≠ n.toNat := by simp only [List.length_cons] at hn; omega
      have hstep : ((Receiver.payload n k g got).take b) = (.payload n k g (got ++ [b]), none) := by
        simp [Receiver.take, hmore]
      obtain ⟨hq, ha⟩ := ih (got ++ [b]) (by simp only [List.length_append, List.length_cons, List.length_nil] at hn ⊢; omega) (by simp)
      rw [List.append_assoc] at ha
      refine ⟨⟨by rw [hstep], by rw [hstep]; exact hq⟩, ?_⟩
      calc (Receiver.payload n k g got).after (b :: c :: rest)
          = (Receiver.payload n k g (got ++ [b])).after (c :: rest) := by simp [Receiver.after, hstep]
        _ = .crcHigh n k g (got ++ b :: c :: rest) := ha

theorem lengthByte_toNat (f : Frame) (h : f.payload.length ≤ 240) : f.lengthByte.toNat = f.payload.length := by
  simp only [Frame.lengthByte, BitVec.toNat_ofNat]
  omega

/-- The bytes of a frame up to the high byte of its CRC complete no frame, and leave the receiver before the low byte. -/
theorem frame_taken (f : Frame) (high : Byte) (h : f.payload.length ≤ 240) :
    let bytes := startByte :: f.lengthByte :: f.kind :: f.tag :: (f.payload ++ [high])
    Receiver.hunt.quiet bytes ∧ Receiver.hunt.after bytes = .crcLow f.lengthByte f.kind f.tag f.payload high := by
  have hlen := lengthByte_toNat f h
  have hvalid : lengthValid f.lengthByte = true := by simp [lengthValid, maxPayload, hlen, h]
  have htail : (Receiver.tag f.lengthByte f.kind).quiet (f.tag :: f.payload) ∧
      (Receiver.tag f.lengthByte f.kind).after (f.tag :: f.payload) =
        .crcHigh f.lengthByte f.kind f.tag f.payload := by
    by_cases hz : f.payload = []
    · have hzero : f.lengthByte = 0 := by simp [Frame.lengthByte, hz]
      simp [Receiver.quiet, Receiver.after, Receiver.take, hz, hzero]
    · have hne : f.lengthByte ≠ 0#8 := by
        intro h0
        rw [h0] at hlen
        exact hz (List.eq_nil_of_length_eq_zero hlen.symm)
      obtain ⟨hq, ha⟩ := payload_taken f.lengthByte f.kind f.tag [] f.payload (by simp [hlen]) hz
      have hstep : (Receiver.tag f.lengthByte f.kind).take f.tag = (.payload f.lengthByte f.kind f.tag [], none) := by
        simp [Receiver.take, hne]
      refine ⟨⟨by rw [hstep], by rw [hstep]; exact hq⟩, ?_⟩
      calc (Receiver.tag f.lengthByte f.kind).after (f.tag :: f.payload)
          = (Receiver.payload f.lengthByte f.kind f.tag []).after f.payload := by simp [Receiver.after, hstep]
        _ = .crcHigh f.lengthByte f.kind f.tag f.payload := ha
  obtain ⟨hq, ha⟩ := htail
  have hsplit : startByte :: f.lengthByte :: f.kind :: f.tag :: (f.payload ++ [high]) =
      [startByte, f.lengthByte, f.kind] ++ ((f.tag :: f.payload) ++ [high]) := rfl
  have hfront : Receiver.hunt.quiet [startByte, f.lengthByte, f.kind] ∧
      Receiver.hunt.after [startByte, f.lengthByte, f.kind] = .tag f.lengthByte f.kind := by
    simp [Receiver.quiet, Receiver.after, Receiver.take, hvalid]
  obtain ⟨hq0, ha0⟩ := hfront
  dsimp only
  rw [hsplit, Receiver.quiet_append, Receiver.quiet_append, Receiver.after_append, Receiver.after_append, ha0, ha]
  exact ⟨⟨hq0, hq, rfl, trivial⟩, rfl⟩

/-- The bytes of a frame up to the high byte of its CRC, and then a last byte, as a run. -/
theorem run_frameBytes (s : State) (f : Frame) (high low : Byte) (h : f.payload.length ≤ 240) (hb : s.lnk.inBreak = false)
    (hr : s.lnk.receiver = .hunt) :
    let bytes := startByte :: f.lengthByte :: f.kind :: f.tag :: (f.payload ++ [high, low])
    Host.Core.run Sys2Proof.core bytes.length
        { s with pending := bytes.map (fun b => Instr.receiveByte b false) ++ s.pending } =
      .next (State.receiveByte low false (s.setReceiver (.crcLow f.lengthByte f.kind f.tag f.payload high))) := by
  have htaken := frame_taken f high h
  dsimp only at htaken ⊢
  rw [← hr] at htaken
  have hsplit : startByte :: f.lengthByte :: f.kind :: f.tag :: (f.payload ++ [high, low]) =
      (startByte :: f.lengthByte :: f.kind :: f.tag :: (f.payload ++ [high])) ++ [low] := by simp
  rw [hsplit, List.length_append, List.map_append, List.append_assoc, run_quiet _ _ _ s hb htaken.1, htaken.2]
  rfl

theorem setReceiver_setReceiver (s : State) (r r' : Receiver) : (s.setReceiver r).setReceiver r' = s.setReceiver r' := rfl

/-- The receiver set to the position it has. -/
theorem setReceiver_self {r : Receiver} (hr : s.lnk.receiver = r) : s.setReceiver r = s := by
  subst hr
  rfl

/-- Settles O6: the bytes before the last complete no frame, and the last one does when the CRC agrees. -/
theorem frameBytesReceived : Obligations.FrameBytesReceived := by
  refine ⟨fun s f h hb hr => ?_, fun s f high low h hb hr hcrc => ?_⟩
  · refine (run_frameBytes s f _ _ h hb hr).trans (congrArg _ ?_)
    rw [receiveByte_of_some _ f, setReceiver_setReceiver, setReceiver_self hr]
    case hb => exact hb
    simp [State.setReceiver, Receiver.take, half_join, Frame.crc]
  · refine (run_frameBytes s f _ _ h hb hr).trans (congrArg _ ?_)
    rw [receiveByte_of_none]
    case hb => exact hb
    case h =>
      have hne : ¬ crcOf (f.lengthByte :: f.kind :: f.tag :: f.payload) = high ++ low := fun he => hcrc he.symm
      simp [State.setReceiver, Receiver.take, hne]
    exact (setReceiver_setReceiver s _ _).trans (setReceiver_self hr)

/-- Settles O7: each position of the receiver by its equation. -/
theorem receiverPositions : Obligations.ReceiverPositions := by
  refine ⟨fun s b p hb hp => ⟨?_, ?_⟩, fun s => ⟨rfl, fun hb => ?_, fun hb => ?_, fun hb b e => ?_⟩⟩
  · show Host.Outcome.next (s.receiveByte b true) = _
    simp [State.receiveByte, hb, State.setReceiver]
  · have htake : (s.lnk.receiver.take b).2 = none → exec (.receiveByte b false) s =
        .next (s.setReceiver (s.lnk.receiver.take b).1) := fun h => congrArg _ (receiveByte_of_none b hb h)
    rw [hp] at htake
    cases p with
    | hunt => exact htake rfl
    | length =>
      refine (htake rfl).trans ?_
      by_cases h : b.toNat ≤ 240 <;> simp [Receiver.take, State.setReceiver, lengthValid, maxPayload, h]
    | kind n => exact htake rfl
    | tag n k => exact htake rfl
    | payload n k g got => exact htake rfl
    | crcHigh n k g got => exact htake rfl
    | crcLow n k g got high =>
      intro hcrc
      exact htake (if_neg fun he => hcrc he.symm)
  · show Host.Outcome.next s.breakEnd = _
    simp [State.breakEnd, hb]
  · show Host.Outcome.next s.breakEnd = _
    simp [State.breakEnd, hb]
  · show Host.Outcome.next (s.receiveByte b e) = _
    simp [State.receiveByte, hb]

/-! ### The halt (R22, R207) -/

/-- What abandoning a shunt check does (R22). -/
theorem abandonShunt_eq (r : LoadRange) (s : State) : s.abandonShunt r =
    if s.ldc.shunt.isSome then
      State.put (.shuntDone .abandoned r none)
        { s with ldc := { s.ldc with shunt := none, shuntEn := false, settle := if s.ldc.shuntEn then 8 else s.ldc.settle } }
    else s := by
  unfold State.abandonShunt
  split <;> simp_all

/-- Settles O8: the trip leaves LDC, so the check abandoned is the one in progress before. -/
theorem haltEffect : Obligations.HaltEffect := by
  intro s
  show Host.Outcome.next s.halt = _
  unfold State.halt
  split
  · rfl
  · have hldc : (State.trip .halt s.enterBreak).ldc = s.ldc := by simp
    rw [State.haltLoad, abandonShunt_eq, hldc]
    rfl

end Sys2Proof.Machine
end

section
/-! SUPPORT. Requests that the link turns away, the ends of frames, and the layout of flag bytes and of samples (R208 to R214,
R217, R220). -/

namespace Sys2Proof.Machine

variable {s t : State}

/-! ### Requests at occupied slots, unknown kinds and wrong lengths (R208, R209, R217) -/

/-- On a free link a frame is answered with what its decoding gives (R209). -/
theorem frameArrives_free (f : Frame) (h : s.lnk.free) :
    s.frameArrives f = State.answered f.kind f.tag (s.decodeAndAct f) := by
  obtain ⟨dio, evq, ldc, xtc, smp, xhs, dec, tsq, res, trb, ⟨rate, rx, br, rs, ps, tx⟩, pending⟩ := s
  obtain ⟨hslot, hreply⟩ := h
  dsimp only at hslot hreply
  subst hslot hreply
  simp only [State.frameArrives, State.dispatchWaiting, State.dispatch]
  rw [kick_reply _ _ rfl]
  unfold State.answered State.reply
  generalize hr : State.decodeAndAct f _ = r
  obtain ⟨u, answer⟩ := r
  cases answer <;> simp [State.acked, State.turnedAway, Lnk.replying]

theorem frameArrives_badKind (f : Frame) (h : s.lnk.free) (hd : decodeFrame f = .badKind) :
    s.frameArrives f = s.turnedAway f.kind f.tag .unknownKind 0 := by
  rw [frameArrives_free f h, State.decodeAndAct, hd]
  rfl

theorem frameArrives_badLength (f : Frame) (h : s.lnk.free) (hd : decodeFrame f = .badLength) :
    s.frameArrives f = s.turnedAway f.kind f.tag .badLength 0 := by
  rw [frameArrives_free f h, State.decodeAndAct, hd]
  rfl

/-- A frame at an empty receive slot waits there while a reply is in its slot and the transmitter is at work (R209). -/
theorem frameArrives_waits {f g : Frame} (hslot : s.lnk.receiveSlot = none) (hreply : s.lnk.replySlot = some g)
    (ht : s.lnk.transmitter ≠ .idle) :
    s.frameArrives f = { s with lnk := { s.lnk with receiveSlot := some f } } := by
  simp [State.frameArrives, hslot, State.dispatchWaiting, hreply, State.kick, ht]

theorem frameArrives_discarded {f g : Frame} (hslot : s.lnk.receiveSlot = some g) : s.frameArrives f = s := by
  simp [State.frameArrives, hslot]

/-- A kind outside 0x01 to 0x23 is not in the catalogue (R217). -/
theorem decodeFrame_of_unknown (f : Frame) (h : ¬ (1 ≤ f.kind.toNat ∧ f.kind.toNat ≤ 0x23)) : decodeFrame f = .badKind := by
  unfold decodeFrame
  split <;> simp_all

/-- The request kinds of one payload length, with that length (R217). -/
def fixedLengths : List (Nat × Nat) :=
  [(0x02, 0), (0x03, 0), (0x04, 1), (0x05, 0), (0x06, 4), (0x07, 48), (0x09, 1), (0x0A, 9), (0x0B, 1), (0x0C, 0),
   (0x0D, 0), (0x0E, 36), (0x0F, 1), (0x10, 1), (0x11, 1), (0x12, 0), (0x13, 0), (0x14, 0), (0x15, 0), (0x16, 0),
   (0x17, 4), (0x18, 8), (0x19, 0), (0x1A, 88), (0x1B, 20), (0x1C, 0), (0x1D, 2), (0x1E, 0), (0x1F, 0), (0x20, 0),
   (0x21, 0), (0x22, 0), (0x23, 2)]

/-- A payload has the length that R217 gives its kind. -/
def LengthRight (kind : Byte) (payload : List Byte) : Prop :=
  (kind.toNat = 0x01 ∧ payload.length ≤ 236) ∨
  (kind.toNat = 0x08 ∧ ∃ (range count : Byte) (points : List Byte),
    payload = range :: count :: points ∧ points.length = 8 * count.toNat) ∨
  (kind.toNat, payload.length) ∈ fixedLengths

/-- A decoding as a request of a kind when a condition holds, and as a wrong length otherwise. -/
def DecodesWhen (right : Prop) (kind : Nat) (d : Decoded) : Prop :=
  (right → ∃ r : Request, d = .request r ∧ r.kind.toNat = kind) ∧ (¬ right → d = .badLength)

theorem DecodesWhen.congr {p q : Prop} {k : Nat} {d : Decoded} (h : DecodesWhen p k d) (hpq : q ↔ p) : DecodesWhen q k d := by
  rwa [DecodesWhen, hpq]

theorem decodesWhen_fixedLength (n : Nat) (p : List Byte) (r : Request) :
    DecodesWhen (p.length = n) r.kind.toNat (fixedLength n p r) :=
  ⟨fun h => ⟨r, if_pos h, rfl⟩, fun h => if_neg h⟩

theorem decodesWhen_ping (p : List Byte) : DecodesWhen (p.length ≤ 236) 0x01 (decodePing p) :=
  ⟨fun h => ⟨.ping p, if_pos h, rfl⟩, fun h => if_neg h⟩

/-- The length of a CAL_WRITE payload, by its count byte (R217). -/
theorem calWrite_length_iff (p : List Byte) :
    (∃ (range count : Byte) (points : List Byte), p = range :: count :: points ∧ points.length = 8 * count.toNat) ↔
      2 ≤ p.length ∧ p.length = 2 + 8 * (byteAt p 1).toNat := by
  constructor
  · rintro ⟨range, count, points, rfl, h⟩
    simp only [List.length_cons, byteAt, List.getD_cons_succ, List.getD_cons_zero]
    omega
  · rintro ⟨h2, hlen⟩
    obtain _ | ⟨range, _ | ⟨count, points⟩⟩ := p
    · simp at h2
    · simp at h2
    · simp only [List.length_cons, byteAt, List.getD_cons_succ, List.getD_cons_zero] at hlen
      exact ⟨range, count, points, rfl, by omega⟩

theorem decodesWhen_calWrite (p : List Byte) :
    DecodesWhen (∃ (range count : Byte) (points : List Byte), p = range :: count :: points ∧ points.length = 8 * count.toNat)
      0x08 (decodeCalWrite p) := by
  rw [DecodesWhen, calWrite_length_iff]
  exact ⟨fun h => ⟨_, if_pos h, rfl⟩, fun h => if_neg h⟩

/-- Each kind of the catalogue is decoded by its length (R217). -/
theorem decodesWhen_decodeFrame (f : Frame) (h : 1 ≤ f.kind.toNat) (h' : f.kind.toNat ≤ 0x23) :
    DecodesWhen (LengthRight f.kind f.payload) f.kind.toNat (decodeFrame f) := by
  unfold LengthRight decodeFrame
  generalize f.kind.toNat = n at h h' ⊢
  interval_cases n
  -- PING is kind 1; of the kinds 2 to 35 that are then left CAL_WRITE, kind 8, is the seventh.
  · exact (decodesWhen_ping f.payload).congr (by simp [fixedLengths])
  pick_goal 7
  · exact (decodesWhen_calWrite f.payload).congr (by simp [fixedLengths])
  all_goals exact (decodesWhen_fixedLength _ f.payload _).congr (by simp [fixedLengths])

/-- Settles O10: by the slots of the link, and by the catalogue's length of each kind. -/
theorem requestsTurnedAwayByLink : Obligations.RequestsTurnedAwayByLink := by
  refine ⟨fun s r tag => ⟨fun f hslot hreply ht => ?_, fun f hslot => ?_⟩, fun s kind tag payload hfree => ?_⟩
  · rw [exec_command]
    exact congrArg _ (frameArrives_waits hslot hreply ht)
  · rw [exec_command]
    exact congrArg _ (frameArrives_discarded hslot)
  · refine ⟨fun h => ?_, fun h h' => ?_⟩
    · exact congrArg _ (frameArrives_badKind ⟨kind, tag, payload⟩ hfree (decodeFrame_of_unknown _ h))
    · obtain ⟨hright, hwrong⟩ := decodesWhen_decodeFrame ⟨kind, tag, payload⟩ h h'
      refine ⟨fun hr => ?_, fun hr => frameArrives_badLength _ hfree (hwrong hr)⟩
      obtain ⟨r, hd, hk⟩ := hright hr
      exact ⟨r, hd, BitVec.eq_of_toNat_eq hk⟩

/-! ### The ends of frames (R195, R196, R213, R215) -/

/-- What a dispatch leaves of the link: the receive slot empty, the reply in its slot, the rest as it was. -/
theorem dispatch_lnk (f : Frame) (s : State) :
    ∃ g, (s.dispatch f).lnk = { s.lnk with receiveSlot := none, replySlot := some g } := by
  have hact : ∀ u : State, (u.decodeAndAct f).1.lnk = u.lnk := by
    intro u
    unfold State.decodeAndAct
    split
    · rfl
    · rfl
    · exact act_lnk u _
  unfold State.dispatch
  dsimp only
  rw [hact]
  exact ⟨_, rfl⟩

/-- A free transmitter begins the reply in its slot, or takes the oldest record when none is in flight, or becomes IDLE
(R195, R213). -/
theorem chooseFrame_eq (s : State) : s.chooseFrame =
    match s.lnk.replySlot, s.trb.inFlight, s.trb.buffer with
    | some _, _, _ => s.sendReply
    | none, .no, r :: _ => s.sendRecord r
    | none, _, _ => s.sendNothing := by
  unfold State.chooseFrame Trb.offered
  cases s.lnk.replySlot with
  | some f => rfl
  | none =>
    cases s.trb.inFlight with
    | no => cases s.trb.buffer <;> rfl
    | oldest => rfl
    | discarded => rfl

theorem restarting_iff {f : Frame} (h : s.lnk.replySlot = some f) : s.lnk.restarting = true ↔ f.kind = 0x85#8 := by
  simp [Lnk.restarting, h, restartAckKind]

theorem exec_replyFrameEnd {f : Frame} (ht : s.lnk.transmitter = .reply) (hf : s.lnk.replySlot = some f) :
    exec .replyFrameEnd s =
      .next (if f.kind = 0x85#8 then s.restart else s.freeReply.dispatchWaiting.chooseFrame) := by
  show Host.Outcome.next s.replyEnd = _
  simp only [State.replyEnd, ht, restarting_iff hf]

/-- The frame that waited at the end of a reply arrives as at a free link (R209, R213). -/
theorem dispatchWaiting_freeReply {g : Frame} (h : s.lnk.receiveSlot = some g) :
    s.freeReply.dispatchWaiting.chooseFrame =
      State.frameArrives g { s with lnk := { s.lnk with receiveSlot := none, replySlot := none, transmitter := .idle } } := by
  have hdispatch : s.freeReply.dispatchWaiting = s.freeReply.dispatch g := by
    simp [State.dispatchWaiting, State.freeReply, h]
  have hsame : ({ s.freeReply with lnk := { s.freeReply.lnk with receiveSlot := some g } } : State) = s.freeReply := by
    rw [← h]
    rfl
  obtain ⟨reply, hlnk⟩ := dispatch_lnk g s.freeReply
  have hidle : (s.freeReply.dispatch g).lnk.transmitter = .idle := by rw [hlnk]; rfl
  calc s.freeReply.dispatchWaiting.chooseFrame
      = (s.freeReply.dispatchWaiting).kick := by rw [hdispatch, State.kick, if_pos hidle]
    _ = State.kick (State.dispatchWaiting { s.freeReply with lnk := { s.freeReply.lnk with receiveSlot := some g } }) := by
        rw [hsame]
    _ = _ := rfl

theorem exec_traceFrameEnd {sent : TraceRecord} (ht : s.lnk.transmitter = .trace sent) :
    exec .traceFrameEnd s = .next s.traceSent.chooseFrame := by
  show Host.Outcome.next s.traceEnd = _
  simp only [State.traceEnd, ht]

/-! ### Flag bytes (R218, R220 to R223) -/

theorem testBit_bitsValue (bits : List Bool) (n : Nat) : (bitsValue bits).testBit n = bits.getD n false := by
  induction bits generalizing n with
  | nil => simp [bitsValue]
  | cons b rest ih =>
    have hbit : bitsValue (b :: rest) = Nat.bit b (bitsValue rest) := by
      cases b <;> simp [bitsValue, Nat.bit, add_comm]
    cases n with
    | zero => rw [hbit, Nat.testBit_bit_zero]; rfl
    | succ n => rw [hbit, Nat.testBit_bit_succ, ih]; rfl

/-- Bit n of a flag byte is the n-th mark of its list. -/
theorem getLsbD_flagByte (bits : List Bool) (n : Nat) (h : n < 8) : (flagByte bits).getLsbD n = bits.getD n false := by
  rw [flagByte, BitVec.getLsbD_ofNat, testBit_bitsValue]
  simp [h]

theorem getLsbD_flagHalf (bits : List Bool) (n : Nat) (h : n < 16) : (flagHalf bits).getLsbD n = bits.getD n false := by
  rw [flagHalf, BitVec.getLsbD_ofNat, testBit_bitsValue]
  simp [h]

/-- An absent number is sent as the word 0. -/
def optWord (x : Option Int) : Word :=
  match x with
  | some v => signedWord v
  | none => 0

theorem optSignedBytes_eq (x : Option Int) : optSignedBytes x = wordBytes (optWord x) := by
  cases x <;> rfl

/-! ### The 24 bytes of a sample (R220) -/

theorem sampleBytes_eq (m : Sample) (gap : Bool) (factor : Byte) :
    sampleBytes m gap factor = wordBytes m.index ++ wordBytes (signedWord m.position) ++ wordBytes (optWord m.load) ++
      wordBytes (optWord m.stress) ++ wordBytes (optWord m.strain) ++
      [sourceCode m.source, stepByte m.step, sampleFlags m gap, factor] := by
  simp only [sampleBytes, optSignedBytes_eq, signedBytes]

@[simp] theorem sampleBytes_length (m : Sample) (gap : Bool) (factor : Byte) : (sampleBytes m gap factor).length = 24 := by
  rw [sampleBytes_eq]
  rfl

/-- The numbers of a sample in its layout. -/
theorem sampleBytes_numbers (m : Sample) (gap : Bool) (factor : Byte) (rest : List Byte) :
    let a := sampleBytes m gap factor ++ rest
    wordAt a 0 = m.index ∧ wordAt a 4 = signedWord m.position ∧ wordAt a 8 = optWord m.load ∧
    wordAt a 12 = optWord m.stress ∧ wordAt a 16 = optWord m.strain := by
  dsimp only
  rw [sampleBytes_eq]
  exact ⟨word_join _, word_join _, word_join _, word_join _, word_join _⟩

/-- The codes and flags of a sample in its layout. -/
theorem sampleBytes_codes (m : Sample) (gap : Bool) (factor : Byte) (rest : List Byte) :
    let a := sampleBytes m gap factor ++ rest
    byteAt a 20 = sourceCode m.source ∧ byteAt a 21 = stepByte m.step ∧ byteAt a 22 = sampleFlags m gap ∧
    byteAt a 23 = factor := by
  dsimp only
  rw [sampleBytes_eq]
  exact ⟨rfl, rfl, rfl, rfl⟩

/-- Settles O11: what the ends of frames do through the transmitter's choice, and the layout of a record. -/
theorem frameEnds : Obligations.FrameEnds := by
  refine ⟨fun s f ht hf => ?_, fun s sent ht => ?_, fun r => ?_⟩
  · have hexec := exec_replyFrameEnd ht hf
    refine ⟨fun hk => by rw [hexec, if_pos hk], fun hk => ⟨fun g hg => ?_, fun hg => ?_⟩⟩
    · rw [hexec, if_neg hk, dispatchWaiting_freeReply hg]
    · have hnone : s.freeReply.dispatchWaiting = s.freeReply := by simp [State.dispatchWaiting, State.freeReply, hg]
      have hfreed : s.freeReply = { s with lnk := { s.lnk with receiveSlot := none, replySlot := none, transmitter := .idle } } := by
        simp only [State.freeReply, hg]
      rw [hexec, if_neg hk, hnone, chooseFrame_eq, hfreed]
      refine congrArg _ ?_
      cases hi : s.trb.inFlight <;> cases hb : s.trb.buffer <;> simp [State.sendRecord, State.sendNothing, hb]
  · have hchoose : ∀ t : State, t.lnk = s.lnk → t.trb.inFlight = .no → t.chooseFrame =
        match s.lnk.replySlot, t.trb.buffer with
        | some _, _ => { t with lnk := { s.lnk with transmitter := .reply } }
        | none, record :: _ =>
          { t with trb := { t.trb with inFlight := .oldest }, lnk := { s.lnk with transmitter := .trace record } }
        | none, [] => { t with lnk := { s.lnk with transmitter := .idle } } := by
      intro t hl hi
      rw [chooseFrame_eq, hl, hi, ← hl]
      cases t.lnk.replySlot <;> cases t.trb.buffer <;> rfl
    refine ⟨fun hi => ?_, fun hi => ?_⟩
    · rw [exec_traceFrameEnd ht]
      refine congrArg _ ?_
      have hsent : s.traceSent =
          State.halveFactor { s with trb := { s.trb with buffer := s.trb.buffer.tail, inFlight := .no } } := by
        simp [State.traceSent, hi]
      rw [hsent]
      refine hchoose _ (by simp) ?_
      unfold State.halveFactor
      split <;> simp
    · rw [exec_traceFrameEnd ht]
      refine congrArg _ ?_
      have hsent : s.traceSent = { s with trb := { s.trb with inFlight := .no } } := by simp [State.traceSent, hi]
      rw [hsent]
      exact hchoose _ rfl rfl
  · obtain ⟨h0, h4, h8, h12, h16⟩ := sampleBytes_numbers r.sample r.gap (natByte r.factor) []
    obtain ⟨h20, h21, h22, h23⟩ := sampleBytes_codes r.sample r.gap (natByte r.factor) []
    rw [List.append_nil] at h0 h4 h8 h12 h16 h20 h21 h22 h23
    refine ⟨rfl, rfl, sampleBytes_length _ _ _, h0, h4, h8, h12, h16, ?_, ?_, fun n hn => ?_, h23⟩
    · rw [TraceRecord.frame, TraceRecord.bytes, h20]
      cases r.sample.source <;> rfl
    · rw [TraceRecord.frame, TraceRecord.bytes, h21]
      cases r.sample.step <;> rfl
    · rw [TraceRecord.frame, TraceRecord.bytes, h22]
      exact getLsbD_flagByte _ n hn

end Sys2Proof.Machine
end

section
/-! SUPPORT. The resets, the reads of the part, the events and their bytes (chapters Discrete Inputs, Outputs and the Event
Queue and The Message Link, section 11.9). -/

namespace Sys2Proof.Machine

variable {s : State}

/-! ### The event queue and part time (R101 to R103) -/

theorem put_of_room (e : Event) (h : s.evq.entries.length < 32) :
    s.put e = { s with evq := { s.evq with entries := s.evq.entries ++ [⟨e, s.dio.partTime⟩] } } := if_pos h

theorem put_of_full (e : Event) (h : 32 ≤ s.evq.entries.length) :
    s.put e = { s with evq := { s.evq with overflow := true } } := if_neg (by simpa [eventCapacity] using h)

/-- Settles O16: by the two cases of a put. -/
theorem eventPutAndTick : Obligations.EventPutAndTick :=
  ⟨fun _ e => ⟨put_of_room e, put_of_full e⟩, fun _ => rfl⟩

/-! ### The starting levels (R125, R126) -/

/-- The trips of the starting levels, in the order of their evaluation (R125). -/
def startCauses (estop up down : Bool) : List TripCause :=
  (if estop then [] else [.estop]) ++ (if up then [.limitUp] else []) ++ (if down then [.limitDown] else [])

/-- With the chain OPEN a new cause joins the set, becomes the first-out of an empty set, and puts TRIP (R112). -/
theorem trip_of_opened {c : TripCause} (hn : c ∉ s.dec.trips) (hc : s.dec.chain = .opened) :
    s.trip c = State.put (.trip c)
      { s with dec := { s.dec with trips := s.dec.trips ++ [c],
                                   firstOut := if s.dec.trips = [] then some c else s.dec.firstOut } } := by
  simp [State.trip, hn, hc]

/-- The evaluation of the starting levels, from an empty trip set and a queue of one entry. -/
theorem evaluateStart_eq {e : Entry} (hchain : s.dec.chain = .opened) (htrips : s.dec.trips = [])
    (hfirst : s.dec.firstOut = none) (hevq : s.evq = { entries := [e], overflow := false }) :
    let causes := startCauses (s.asserted .estop) (s.asserted .limitUp) (s.asserted .limitDown)
    s.evaluateStart = { s with
      dec := { s.dec with trips := causes, firstOut := causes.head? }
      evq := { entries := e :: causes.map fun c => ⟨.trip c, s.dio.partTime⟩, overflow := false } } := by
  obtain ⟨dio, evq, ldc, xtc, smp, xhs, ⟨chain, trips, first, guardMode, overload⟩, tsq, res, trb, lnk, pending⟩ := s
  dsimp only at hchain htrips hfirst hevq
  subst hchain htrips hfirst hevq
  by_cases he : (dio.inputs.get .estop).asserted = true <;> by_cases hu : (dio.inputs.get .limitUp).asserted = true <;>
    by_cases hd : (dio.inputs.get .limitDown).asserted = true <;>
    simp [State.evaluateStart, State.asserted, trip_of_opened, put_of_room, startCauses, he, hu, hd]

theorem strapCode_eq (b a : Bool) : strapCode b a = BitVec.ofNat 2 (2 * b.toNat + a.toNat) := by
  cases b <;> cases a <;> rfl

/-- Settles O12: every block at its reset value, then the starting levels. -/
theorem powerOnResetValues : Obligations.PowerOnResetValues := by
  intro s selB selA levels chanA chanB
  have hstart := evaluateStart_eq (s := s.powerOnBlocks (strapCode selB selA) levels chanA chanB)
    (e := ⟨.startUp false, 0⟩) rfl rfl rfl rfl
  have hlevel : ∀ (i : Input) (n : Nat), (s.powerOnBlocks (strapCode selB selA) levels chanA chanB).dio.inputs.get i =
      .powerOn i (levels.getLsbD n) →
      (s.powerOnBlocks (strapCode selB selA) levels chanA chanB).asserted i = levels.getLsbD n := by
    intro i n h
    simp [State.asserted, h, InputRec.asserted, InputRec.powerOn]
  dsimp only at hstart
  rw [hlevel .estop 0 rfl, hlevel .limitUp 2 rfl, hlevel .limitDown 3 rfl] at hstart
  refine congrArg Host.Outcome.next (hstart.trans ?_)
  rw [strapCode_eq]
  rfl

/-- Settles O13: each block at RESTART, then the starting levels. -/
theorem restartTakesEffect : Obligations.RestartTakesEffect := by
  intro s f ht hf hk
  have hstart := evaluateStart_eq (s := s.restartBlocks) (e := ⟨.startUp true, 0⟩) rfl rfl rfl rfl
  refine ⟨_, (exec_replyFrameEnd ht hf).trans (congrArg _ ((if_pos hk).trans hstart)), fun i => ?_, ?_⟩
  · cases i <;> rfl
  · exact ⟨rfl, rfl, rfl, rfl, rfl, rfl, rfl, rfl, rfl, rfl, rfl, rfl, rfl, rfl⟩

/-! ### Reading a layout: past a word, past a byte, and at a word (R218) -/

theorem wordAt_wordBytes_zero (w : Word) (rest : List Byte) : wordAt (wordBytes w ++ rest) 0 = w := word_join w

theorem wordAt_wordBytes_add (w : Word) (rest : List Byte) (k : Nat) : wordAt (wordBytes w ++ rest) (k + 4) = wordAt rest k := rfl

theorem wordAt_cons_succ (b : Byte) (rest : List Byte) (k : Nat) : wordAt (b :: rest) (k + 1) = wordAt rest k := rfl

theorem halfAt_halfBytes_zero (h : Half) (rest : List Byte) : halfAt (halfBytes h ++ rest) 0 = h := half_join h

theorem halfAt_wordBytes_add (w : Word) (rest : List Byte) (k : Nat) : halfAt (wordBytes w ++ rest) (k + 4) = halfAt rest k := rfl

theorem halfAt_halfBytes_add (h : Half) (rest : List Byte) (k : Nat) : halfAt (halfBytes h ++ rest) (k + 2) = halfAt rest k := rfl

theorem halfAt_cons_succ (b : Byte) (rest : List Byte) (k : Nat) : halfAt (b :: rest) (k + 1) = halfAt rest k := rfl

theorem wordAt_halfBytes_add (h : Half) (rest : List Byte) (k : Nat) : wordAt (halfBytes h ++ rest) (k + 2) = wordAt rest k := rfl

theorem byteAt_cons_zero (b : Byte) (rest : List Byte) : byteAt (b :: rest) 0 = b := rfl

theorem byteAt_cons_succ (b : Byte) (rest : List Byte) (k : Nat) : byteAt (b :: rest) (k + 1) = byteAt rest k := rfl

theorem byteAt_wordBytes_add (w : Word) (rest : List Byte) (k : Nat) : byteAt (wordBytes w ++ rest) (k + 4) = byteAt rest k := rfl

theorem byteAt_halfBytes_add (h : Half) (rest : List Byte) (k : Nat) : byteAt (halfBytes h ++ rest) (k + 2) = byteAt rest k := rfl

/-! ### The layout of the result record (R222) -/

/-- An absent index or count is sent as the word 0. -/
def indexWord (x : Option Word) : Word :=
  match x with
  | some v => v
  | none => 0

/-- A text field with its length byte, an absent one as zero bytes. -/
def textField (size : Nat) (x : Option (List Byte)) : List Byte :=
  match x with
  | some v => BitVec.ofNat 8 v.length :: (v ++ List.replicate (size - v.length) 0)
  | none => List.replicate (size + 1) 0

theorem optTextBytes_eq (size : Nat) (x : Option (List Byte)) : optTextBytes size x = textField size x := by
  cases x with
  | none => rfl
  | some t => rfl

theorem textField_length (size : Nat) (x : Option (List Byte)) (h : ∀ t, x = some t → t.length ≤ size) :
    (textField size x).length = size + 1 := by
  cases x with
  | none => simp [textField]
  | some t =>
    have hle := h t rfl
    simp only [textField, List.length_cons, List.length_append, List.length_replicate]
    omega

theorem optEBytes_eq (x : Option EFigure) : optEBytes x =
    wordBytes (optWord (x.map fun f => f.e)) ++ (x.elim 0 fun f => basisCode f.basis) ::
      wordBytes (indexWord (x.map fun f => BitVec.ofNat 32 f.n)) := by
  cases x <;> rfl

theorem optRpBytes_eq (x : Option RpFigure) : optRpBytes x =
    wordBytes (optWord (x.map fun f => f.rp)) ++ wordBytes (optWord (x.map fun f => f.strain)) ++
      wordBytes (indexWord (x.map fun f => f.index)) ++ [match x with | none => 0 | some f => sourceCode f.source] := by
  cases x <;> rfl

theorem optPointBytes_eq (x : Option CurvePoint) : optPointBytes x =
    wordBytes (optWord (x.map fun f => f.stress)) ++ wordBytes (optWord (x.map fun f => f.strain)) ++
      wordBytes (indexWord (x.map fun f => f.index)) := by
  cases x <;> rfl

theorem optFmaxBytes_eq (x : Option FmaxFigure) : optFmaxBytes x =
    wordBytes (optWord (x.map fun f => f.load)) ++ wordBytes (indexWord (x.map fun f => f.index)) := by
  cases x <;> rfl

theorem optWordBytes_eq (x : Option Word) : optWordBytes x = wordBytes (indexWord x) := by
  cases x <;> rfl

/-- The bytes of a result record after its texts, from offset 32. -/
def ResultRecord.figures (r : ResultRecord) : List Byte :=
  optEBytes r.e ++ optRpBytes r.rp ++ optPointBytes r.reh ++ optSignedBytes r.rel ++ optSignedBytes r.ae ++
  optFmaxBytes r.fmax ++ optSignedBytes r.rm ++ optSignedBytes r.ag ++ optSignedBytes r.a ++ optWordBytes r.fracture ++
  [optReasonByte r.reason, markByte r.final]

theorem resultBytes_eq (r : ResultRecord) : r.bytes =
    halfBytes (resultPresence r) ++ (textField 16 r.specimen ++ (textField 12 r.cast ++ r.figures)) := by
  simp only [ResultRecord.bytes, ResultRecord.figures, optTextBytes_eq, List.append_assoc]

theorem figures_eq (r : ResultRecord) : r.figures =
    (wordBytes (optWord (r.e.map fun f => f.e)) ++ (r.e.elim 0 fun f => basisCode f.basis) ::
      wordBytes (indexWord (r.e.map fun f => BitVec.ofNat 32 f.n))) ++
    (wordBytes (optWord (r.rp.map fun f => f.rp)) ++ wordBytes (optWord (r.rp.map fun f => f.strain)) ++
      wordBytes (indexWord (r.rp.map fun f => f.index)) ++ [match r.rp with | none => 0 | some f => sourceCode f.source]) ++
    (wordBytes (optWord (r.reh.map fun f => f.stress)) ++ wordBytes (optWord (r.reh.map fun f => f.strain)) ++
      wordBytes (indexWord (r.reh.map fun f => f.index))) ++
    wordBytes (optWord r.rel) ++ wordBytes (optWord r.ae) ++
    (wordBytes (optWord (r.fmax.map fun f => f.load)) ++ wordBytes (indexWord (r.fmax.map fun f => f.index))) ++
    wordBytes (optWord r.rm) ++ wordBytes (optWord r.ag) ++ wordBytes (optWord r.a) ++ wordBytes (indexWord r.fracture) ++
    [optReasonByte r.reason, markByte r.final] := by
  simp only [ResultRecord.figures, optEBytes_eq, optRpBytes_eq, optPointBytes_eq, optFmaxBytes_eq, optWordBytes_eq,
    optSignedBytes_eq]

theorem figures_length (r : ResultRecord) : r.figures.length = 68 := by
  rw [figures_eq]
  rfl

/-- The figures at their offsets from 32. -/
theorem figures_numbers (r : ResultRecord) :
    let a := r.figures
    wordAt a 0 = optWord (r.e.map fun f => f.e) ∧ wordAt a 5 = indexWord (r.e.map fun f => BitVec.ofNat 32 f.n) ∧
    wordAt a 9 = optWord (r.rp.map fun f => f.rp) ∧ wordAt a 13 = optWord (r.rp.map fun f => f.strain) ∧
    wordAt a 17 = indexWord (r.rp.map fun f => f.index) ∧
    wordAt a 22 = optWord (r.reh.map fun f => f.stress) ∧ wordAt a 26 = optWord (r.reh.map fun f => f.strain) ∧
    wordAt a 30 = indexWord (r.reh.map fun f => f.index) ∧
    wordAt a 34 = optWord r.rel ∧ wordAt a 38 = optWord r.ae ∧
    wordAt a 42 = optWord (r.fmax.map fun f => f.load) ∧ wordAt a 46 = indexWord (r.fmax.map fun f => f.index) ∧
    wordAt a 50 = optWord r.rm ∧ wordAt a 54 = optWord r.ag ∧ wordAt a 58 = optWord r.a ∧
    wordAt a 62 = indexWord r.fracture := by
  dsimp only
  rw [figures_eq]
  simp only [List.append_assoc, List.cons_append, List.nil_append, wordAt_wordBytes_zero, wordAt_wordBytes_add, wordAt_cons_succ, and_self]

theorem figures_codes (r : ResultRecord) :
    byteAt r.figures 4 = (r.e.elim 0 fun f => basisCode f.basis) ∧
    byteAt r.figures 21 = (match r.rp with | none => 0 | some f => sourceCode f.source) ∧
    byteAt r.figures 66 = optReasonByte r.reason ∧ byteAt r.figures 67 = markByte r.final := by
  rw [figures_eq]
  simp only [List.append_assoc, List.cons_append, List.nil_append, byteAt_cons_zero, byteAt_cons_succ, byteAt_wordBytes_add, and_self]

/-- The parts of a result record's bytes whose texts fit: the presence word, the two texts, and then the figures. -/
theorem resultBytes_parts (r : ResultRecord) (hs : ∀ t, r.specimen = some t → t.length ≤ 16)
    (hc : ∀ t, r.cast = some t → t.length ≤ 12) :
    halfAt r.bytes 0 = resultPresence r ∧ bytesAt r.bytes 2 17 = textField 16 r.specimen ∧
    bytesAt r.bytes 19 13 = textField 12 r.cast ∧ r.bytes.length = 100 ∧
    (∀ k, wordAt r.bytes (32 + k) = wordAt r.figures k) ∧ (∀ k, byteAt r.bytes (32 + k) = byteAt r.figures k) := by
  have hs' := textField_length 16 r.specimen hs
  have hc' := textField_length 12 r.cast hc
  have hbytes := resultBytes_eq r
  have hpre : r.bytes = (halfBytes (resultPresence r) ++ (textField 16 r.specimen ++ textField 12 r.cast)) ++ r.figures := by
    simp only [hbytes, List.append_assoc]
  have hlen : (halfBytes (resultPresence r) ++ (textField 16 r.specimen ++ textField 12 r.cast)).length = 32 := by
    simp [halfBytes, hs', hc']
  refine ⟨by rw [hbytes]; exact halfAt_halfBytes_zero _ _, ?_, ?_, ?_, fun k => ?_, fun k => ?_⟩
  · have h := bytesAt_append (halfBytes (resultPresence r)) (textField 16 r.specimen) (textField 12 r.cast ++ r.figures)
    rw [hs'] at h
    rw [hbytes]
    exact h
  · have h := bytesAt_append (halfBytes (resultPresence r) ++ textField 16 r.specimen) (textField 12 r.cast) r.figures
    rw [hc', List.length_append, hs'] at h
    rw [hbytes, ← List.append_assoc]
    exact h
  · rw [hpre, List.length_append, hlen, figures_length]
  · rw [hpre, ← hlen, wordAt_append]
  · rw [hpre, ← hlen, byteAt_append]

theorem stepByte_eq (k : Option Nat) : stepByte k = (k.map natByte).getD 0xFF := by
  cases k <;> rfl

theorem optWord_eq (x : Option Int) : optWord x = (x.map signedWord).getD 0 := by
  cases x <;> rfl

/-- Settles O14: the reads change nothing, and each part of the result record stands at its offset. -/
theorem readsAnswer : Obligations.ReadsAnswer := by
  refine ⟨fun s tag hf => ⟨fun payload hp => ?_, ?_, ?_⟩, fun s tag hf => ?_, fun r hs hc => ?_⟩
  · exact exec_answered hf (.ping payload) tag (decide_eq_true hp)
  · refine (exec_answered hf .statusRead tag rfl).trans ?_
    rw [← stepByte_eq]
    rfl
  · exact exec_answered hf .resultRead tag rfl
  · exact exec_answered hf .restart tag rfl
  · obtain ⟨hpresence, hspecimen, hcast, hlen, hword, hbyte⟩ := resultBytes_parts r hs hc
    obtain ⟨h0, h5, h9, h13, h17, h22, h26, h30, h34, h38, h42, h46, h50, h54, h58, h62⟩ := figures_numbers r
    obtain ⟨h4, h21, h66, h67⟩ := figures_codes r
    refine ⟨hlen, fun n hn => ?_, hspecimen, hcast, (hword 0).trans h0, ?_, (hword 5).trans h5, (hword 9).trans h9,
      (hword 13).trans h13, (hword 17).trans h17, (hbyte 21).trans h21, (hword 22).trans h22, (hword 26).trans h26,
      (hword 30).trans h30, (hword 34).trans h34, (hword 38).trans h38, (hword 42).trans h42, (hword 46).trans h46,
      (hword 50).trans h50, (hword 54).trans h54, (hword 58).trans h58, (hword 62).trans h62, ?_, ?_⟩
    · rw [hpresence]
      exact getLsbD_flagHalf _ n hn
    · rw [(hbyte 4).trans h4]
      cases r.e with
      | none => rfl
      | some f =>
        obtain ⟨_, basis, _⟩ := f
        cases basis <;> rfl
    · rw [(hbyte 66).trans h66]
      cases r.reason with
      | none => rfl
      | some e => cases e <;> rfl
    · rw [(hbyte 67).trans h67]
      cases r.final with
      | none => rfl
      | some b => cases b <;> rfl

/-! ### READ_NOW (R223) -/

/-- The bytes of READ_NOW after the last sample, from offset 24. -/
def State.presentBytes (s : State) : List Byte :=
  halfBytes s.levelBitmap ++ s.outputFlags :: solenoidCode s.xtc.armA.solenoid :: solenoidCode s.xtc.armB.solenoid ::
  armStateCode s.xtc.armA.state :: armStateCode s.xtc.armB.state ::
  (wordBytes (optWord s.xtc.armA.lastRaw) ++ (wordBytes (optWord s.xtc.armB.lastRaw) ++
  (wordBytes (optWord s.xtc.armA.lastElong) ++ (wordBytes (optWord s.xtc.armB.lastElong) ++ s.armFlags ::
  sourceCode s.smp.source :: (wordBytes (signedWord s.smp.sourceOffset) ++ (halfBytes (tripBitmap s.dec.trips) ++
  s.chainFlags :: holdCode s.tsq.state :: endCode s.tsq.state :: stepByte s.tsq.step ::
  (wordBytes (BitVec.ofNat 32 s.tsq.stepTime) ++ boolByte s.tsq.pendingCopy.isSome :: rangeModeCode s.ldc.mode ::
  s.loadFlags :: (wordBytes (signedWord s.ldc.tare) ++ servoModeCode s.xhs.mode ::
  (wordBytes (signedWord s.xhs.velocity) ++ s.monitorFlags :: s.traceFlags :: natByte s.trb.base ::
  natByte s.trb.factor :: (halfBytes (BitVec.ofNat 16 s.trb.buffer.length) ++ []))))))))))

theorem readNowAnswer_eq (s : State) : s.readNowAnswer = s.lastSampleBytes ++ s.presentBytes := by
  unfold State.readNowAnswer State.presentBytes
  simp only [List.append_assoc, List.cons_append, List.nil_append]
  simp only [signedBytes, natWord, natHalf, optSignedBytes_eq, List.append_nil]

theorem lastSampleBytes_length (s : State) : s.lastSampleBytes.length = 24 := by
  unfold State.lastSampleBytes
  split
  · exact sampleBytes_length _ _ _
  · rfl

theorem presentBytes_length (s : State) : s.presentBytes.length = 57 := by
  simp [State.presentBytes, halfBytes]

theorem presentBytes_bytes (s : State) :
    let a := s.presentBytes
    byteAt a 2 = s.outputFlags ∧ byteAt a 3 = solenoidCode s.xtc.armA.solenoid ∧
    byteAt a 4 = solenoidCode s.xtc.armB.solenoid ∧ byteAt a 5 = armStateCode s.xtc.armA.state ∧
    byteAt a 6 = armStateCode s.xtc.armB.state ∧ byteAt a 23 = s.armFlags ∧ byteAt a 24 = sourceCode s.smp.source ∧
    byteAt a 31 = s.chainFlags ∧ byteAt a 32 = holdCode s.tsq.state ∧ byteAt a 33 = endCode s.tsq.state ∧
    byteAt a 34 = stepByte s.tsq.step ∧ byteAt a 39 = boolByte s.tsq.pendingCopy.isSome ∧
    byteAt a 40 = rangeModeCode s.ldc.mode ∧ byteAt a 41 = s.loadFlags ∧ byteAt a 46 = servoModeCode s.xhs.mode ∧
    byteAt a 51 = s.monitorFlags ∧ byteAt a 52 = s.traceFlags ∧ byteAt a 53 = natByte s.trb.base ∧
    byteAt a 54 = natByte s.trb.factor := by
  simp only [State.presentBytes, byteAt_cons_zero, byteAt_cons_succ, byteAt_wordBytes_add, byteAt_halfBytes_add, and_self]

theorem presentBytes_words (s : State) :
    let a := s.presentBytes
    wordAt a 7 = optWord s.xtc.armA.lastRaw ∧ wordAt a 11 = optWord s.xtc.armB.lastRaw ∧
    wordAt a 15 = optWord s.xtc.armA.lastElong ∧ wordAt a 19 = optWord s.xtc.armB.lastElong ∧
    wordAt a 25 = signedWord s.smp.sourceOffset ∧ wordAt a 35 = BitVec.ofNat 32 s.tsq.stepTime ∧
    wordAt a 42 = signedWord s.ldc.tare ∧ wordAt a 47 = signedWord s.xhs.velocity := by
  simp only [State.presentBytes, wordAt_wordBytes_zero, wordAt_wordBytes_add, wordAt_halfBytes_add, wordAt_cons_succ,
    and_self]

theorem presentBytes_halves (s : State) :
    let a := s.presentBytes
    halfAt a 0 = s.levelBitmap ∧ halfAt a 29 = tripBitmap s.dec.trips ∧
    halfAt a 55 = BitVec.ofNat 16 s.trb.buffer.length := by
  simp only [State.presentBytes, halfAt_halfBytes_zero, halfAt_halfBytes_add, halfAt_wordBytes_add, halfAt_cons_succ,
    and_self]

/-- A field of READ_NOW after the last sample. -/
theorem readNowAnswer_fields (s : State) (k : Nat) :
    byteAt s.readNowAnswer (24 + k) = byteAt s.presentBytes k ∧ wordAt s.readNowAnswer (24 + k) = wordAt s.presentBytes k ∧
    halfAt s.readNowAnswer (24 + k) = halfAt s.presentBytes k := by
  rw [readNowAnswer_eq, ← lastSampleBytes_length s, byteAt_append, wordAt_append, halfAt_append]
  exact ⟨rfl, rfl, rfl⟩

theorem isEmpty_eq {α : Type} (l : List α) [DecidableEq α] : (!l.isEmpty) = decide (l ≠ []) := by
  cases l <;> simp

theorem allTrips_get {n : Nat} {c : TripCause} (hc : tripCode c = BitVec.ofNat 8 (n + 1)) (hn : n < 10) :
    allTrips[n]? = some c := by
  have hcode : ∀ d : TripCause, allTrips[(tripCode d).toNat - 1]? = some d := by intro d; cases d <;> rfl
  have hnat : (tripCode c).toNat = n + 1 := by rw [hc, BitVec.toNat_ofNat]; omega
  simpa [hnat] using hcode c

/-- Bit n of a trip bitmap tells whether the cause of code n + 1 is in the set (R218). -/
theorem getLsbD_tripBitmap (trips : List TripCause) {n : Nat} {c : TripCause} (hc : tripCode c = BitVec.ofNat 8 (n + 1))
    (hn : n < 10) : (tripBitmap trips).getLsbD n = decide (c ∈ trips) := by
  rw [tripBitmap, getLsbD_flagHalf _ n (by omega), List.getD_eq_getElem?_getD, List.getElem?_map, allTrips_get hc hn]
  rfl

/-- Settles O15: the layout of READ_NOW, and the bits of its bitmaps. -/
theorem readNowLayout : Obligations.ReadNowLayout := by
  refine ⟨fun s tag hf => ⟨s.readNowAnswer, exec_answered hf .readNow tag rfl, ?_, ?_, ?_⟩, fun trips n c hc hn => ?_,
    fun marks n _ hn => getLsbD_flagByte marks n hn⟩
  · rw [readNowAnswer_eq, List.length_append, lastSampleBytes_length, presentBytes_length]
  · rw [readNowAnswer_eq]
    unfold State.lastSampleBytes
    cases s.smp.last with
    | none => rfl
    | some l =>
      obtain ⟨h0, h4, h8, h12, h16⟩ := sampleBytes_numbers l.sample false 0 s.presentBytes
      obtain ⟨h20, h21, h22, h23⟩ := sampleBytes_codes l.sample false 0 s.presentBytes
      rw [optWord_eq] at h8 h12 h16
      rw [stepByte_eq] at h21
      exact ⟨h0, h4, h8, h12, h16, h20, h21, h22, h23⟩
  · have hfield := readNowAnswer_fields s
    obtain ⟨b2, b3, b4, b5, b6, b23, b24, b31, b32, b33, b34, b39, b40, b41, b46, b51, b52, b53, b54⟩ := presentBytes_bytes s
    obtain ⟨w7, w11, w15, w19, w25, w35, w42, w47⟩ := presentBytes_words s
    obtain ⟨h0, h29, h55⟩ := presentBytes_halves s
    rw [optWord_eq] at w7 w11 w15 w19
    rw [stepByte_eq] at b34
    rw [State.outputFlags, State.attn, isEmpty_eq] at b2
    rw [State.loadFlags, Ldc.valid, Ldc.valid, isEmpty_eq, isEmpty_eq] at b41
    exact ⟨(hfield 0).2.2.trans h0, (hfield 2).1.trans b2, (hfield 3).1.trans b3, (hfield 4).1.trans b4,
      (hfield 5).1.trans b5, (hfield 6).1.trans b6, (hfield 7).2.1.trans w7, (hfield 11).2.1.trans w11,
      (hfield 15).2.1.trans w15, (hfield 19).2.1.trans w19, (hfield 23).1.trans b23, (hfield 24).1.trans b24,
      (hfield 25).2.1.trans w25, (hfield 29).2.2.trans h29, (hfield 31).1.trans b31, (hfield 32).1.trans b32,
      (hfield 33).1.trans b33, (hfield 34).1.trans b34, (hfield 35).2.1.trans w35, (hfield 39).1.trans b39,
      (hfield 40).1.trans b40, (hfield 41).1.trans b41, (hfield 42).2.1.trans w42, (hfield 46).1.trans b46,
      (hfield 47).2.1.trans w47, (hfield 51).1.trans b51, (hfield 52).1.trans b52, (hfield 53).1.trans b53,
      (hfield 54).1.trans b54, (hfield 55).2.2.trans h55⟩
  · rw [getLsbD_tripBitmap trips hc hn, decide_eq_true_eq]

/-! ### EVENT_READ (R106, R221) -/

theorem eventRead_of_many {n : Byte} (h : 8 < n.toNat) (s : State) : s.eventRead n = (s, .no .badValue) := if_pos h

/-- The oldest entries leave the queue and are returned; the overflow mark is noted and cleared. -/
theorem eventRead_of_few {n : Byte} (h : n.toNat ≤ 8) (s : State) {taken kept : List Entry}
    (hq : s.evq.entries = taken ++ kept) (hlen : taken.length = min n.toNat s.evq.entries.length) :
    s.eventRead n = ({ s with evq := { entries := kept, overflow := false } },
      .ack (boolByte s.evq.overflow :: natByte taken.length :: taken.flatMap Entry.bytes)) := by
  have hsplit : s.evq.entries.take n.toNat = taken ∧ s.evq.entries.drop n.toNat = kept := by
    rw [← List.take_append_drop n.toNat s.evq.entries] at hq
    exact List.append_inj hq (by rw [List.length_take, hlen])
  obtain ⟨htake, hdrop⟩ := hsplit
  rw [State.eventRead, if_neg (by omega)]
  simp only [htake, hdrop]

/-- An entry: code, Q1, Q2, the marks, the value and the part time (R221). -/
theorem entryBytes_parts (e : Entry) :
    byteAt e.bytes 0 = e.event.parts.code ∧ byteAt e.bytes 1 = e.event.parts.q1 ∧ byteAt e.bytes 2 = e.event.parts.q2 ∧
    byteAt e.bytes 3 = eventFlags e.event.parts.mark e.event.parts.value.isSome ∧
    wordAt e.bytes 4 = e.event.parts.value.getD 0 ∧ wordAt e.bytes 8 = e.time :=
  ⟨rfl, rfl, rfl, rfl, word_join _, word_join _⟩

/-- The first bytes of an entry as its code, qualifiers, state and value. -/
theorem entryBytes_is (e : Entry) (code q1 q2 : Byte) (state : Option Bool) (value : Option Word)
    (h : e.event.parts = ⟨code, q1, q2, state, value⟩) :
    byteAt e.bytes 0 = code ∧ byteAt e.bytes 1 = q1 ∧ byteAt e.bytes 2 = q2 ∧
    (∀ n : Nat, n < 8 →
      (byteAt e.bytes 3).getLsbD n = [state.isSome, decide (state = some true), value.isSome].getD n false) ∧
    wordAt e.bytes 4 = value.getD 0 := by
  obtain ⟨h0, h1, h2, h3, h4, _⟩ := entryBytes_parts e
  rw [h] at h0 h1 h2 h3 h4
  refine ⟨h0, h1, h2, fun n hn => ?_, h4⟩
  rw [h3, eventFlags, getLsbD_flagByte _ n hn]
  cases state with
  | none => rfl
  | some b => cases b <;> rfl

/-- Settles O17: the read by its count, and each event by its parts. -/
theorem eventReadTakesOldest : Obligations.EventReadTakesOldest := by
  refine ⟨fun s tag n hf => ⟨fun h => ?_, fun h taken kept hq hlen => ?_⟩, fun e => ⟨rfl, word_join _, ?_⟩,
    rfl, rfl, fun _ _ => rfl, rfl, rfl, rfl, rfl, rfl, rfl⟩
  · refine (exec_answered hf (.eventRead n) tag rfl).trans ?_
    simp only [State.act, eventRead_of_many h]
    rfl
  · refine (exec_answered hf (.eventRead n) tag rfl).trans ?_
    simp only [State.act, eventRead_of_few h s hq hlen]
    rfl
  · have his := entryBytes_is e
    obtain ⟨event, time⟩ := e
    dsimp only
    split
    case h_8 x hhold hend =>
      refine his _ _ _ _ _ ?_
      cases x with
      | holding c => exact absurd rfl (hhold c)
      | ended r => exact absurd rfl (hend r)
      | _ => rfl
    all_goals exact his _ _ _ _ _ rfl

end Sys2Proof.Machine
end

section
/-! SUPPORT. The discrete inputs and the drive enable chain (chapters Discrete Inputs, Outputs and the Event Queue and Drive
Enable Chain). -/

namespace Sys2Proof.Machine

variable {s t : State}

/-! ### A request on a free link by what its owning block does (R209) -/

theorem exec_acked (hf : s.lnk.free) (r : Request) (tag : Byte) (hw : r.wellFormed = true) {bytes : List Byte}
    (h : s.act r = (t, .ack bytes)) : exec (Request.command tag r) s = .next (t.acked r.kind tag bytes) := by
  rw [exec_answered hf r tag hw, h]
  rfl

theorem exec_refused (hf : s.lnk.free) (r : Request) (tag : Byte) (hw : r.wellFormed = true) {reason : Reason} {detail : Half}
    (h : s.act r = (t, .refuse reason detail)) :
    exec (Request.command tag r) s = .next (t.turnedAway r.kind tag reason detail) := by
  rw [exec_answered hf r tag hw, h]
  rfl

/-! ### Debounce (R96) -/

@[simp] theorem put_put (v : Inputs) (i : Input) (r q : InputRec) : (v.put i r).put i q = v.put i q := by
  cases i <;> rfl

theorem setInput_setInput (s : State) (i : Input) (r q : InputRec) : (s.setInput i r).setInput i q = s.setInput i q := by
  simp [State.setInput]

@[simp] theorem setInput_get (s : State) (i : Input) (r : InputRec) : (s.setInput i r).dio.inputs.get i = r :=
  get_put_same s.dio.inputs i r

/-- A pending change is taken with the level opposite to the one held (R96). -/
theorem takeLevel_setInput (s : State) (i : Input) (r : InputRec) :
    (s.setInput i r).takeLevel i = (s.setInput i { r with level := !r.level, pendingSince := none }).deliverInput i := by
  rw [State.takeLevel, setInput_get, setInput_setInput]

/-- Settles O18: by the three cases of a raw change, and by whether a pending change has stood. -/
theorem inputDebounce : Obligations.InputDebounce := by
  refine ⟨fun s i level us => ⟨fun h => ?_, fun h hd => ?_, fun h hd => ?_⟩, fun s i us => ⟨fun h => ?_, fun start h => ?_⟩⟩
  · exact congrArg Host.Outcome.next (if_pos h)
  · refine congrArg Host.Outcome.next ((if_neg h).trans ((if_neg hd).trans ?_))
    cases hp : (s.dio.inputs.get i).pendingSince <;>
      simp [State.setInput, State.noteTime, hp, Dio.now]
  · refine congrArg Host.Outcome.next ((if_neg h).trans ((if_pos hd).trans ?_))
    have hlevel : (!(s.dio.inputs.get i).level) = level := by
      revert h
      cases level <;> cases (s.dio.inputs.get i).level <;> simp
    rw [takeLevel_setInput]
    dsimp only [State.noteTime]
    rw [hlevel]
    rfl
  · show Host.Outcome.next (s.debounceEnd i us) = _
    simp [State.debounceEnd, State.noteTime, h]
  · have hend : s.debounceEnd i us =
        if start.stood (s.dio.now us) (s.dio.inputs.get i).debounce then (s.noteTime us).takeLevel i else s.noteTime us := by
      have hnoted : ((s.noteTime us).dio.inputs.get i).pendingSince = some start := h
      unfold State.debounceEnd
      dsimp only
      rw [hnoted]
      rfl
    refine ⟨fun hlt => ?_, fun hle => ?_⟩
    · exact congrArg Host.Outcome.next (hend.trans (if_neg fun hst => Nat.not_le.mpr hlt (of_decide_eq_true hst)))
    · exact congrArg Host.Outcome.next (hend.trans (if_pos (decide_eq_true hle)))

/-! ### Delivery (R98, R115 to R119) -/

/-- Settles O19: by the input and its new logical level. -/
theorem inputDelivery : Obligations.InputDelivery := by
  refine ⟨fun s i => ?_, fun s => ⟨fun h => ?_, fun h hg => ?_, fun h ht hv => ?_⟩⟩
  · have htold : (if (s.dio.inputs.get i).queued then s.put (.input i (s.dio.inputs.get i).asserted) else s).tsq = s.tsq := by
      split <;> simp
    show State.consume i (s.dio.inputs.get i).asserted _ = _
    dsimp only [InputRec.asserted] at htold ⊢
    generalize (if (s.dio.inputs.get i).queued = true then
      s.put (.input i ((s.dio.inputs.get i).level != (s.dio.inputs.get i).inverted)) else s) = told at htold ⊢
    generalize ((s.dio.inputs.get i).level != (s.dio.inputs.get i).inverted) = asserted
    rw [← htold]
    cases i <;> cases asserted <;> rfl
  · exact if_neg (by simp [h])
  · exact (if_pos h).trans (if_pos hg)
  · refine (if_pos h).trans (if_neg ?_)
    simp only [ht, Bool.false_eq_true, false_or, not_lt]
    exact hv

/-! ### INPUT_CONFIG (R97, R99) -/

theorem inputOf_index (i : Input) {b : Byte} (h : b.toNat = inputIndex i) : inputOf b = some i := by
  rw [inputOf, h]
  cases i <;> rfl

theorem inputOf_above {b : Byte} (h : 9 < b.toNat) : inputOf b = none :=
  List.getElem?_eq_none (by simp [allInputs]; omega)

theorem flagOf_of_le {b : Byte} (h : b.toNat ≤ 1) : flagOf b = some (b.toNat == 1) := by
  have hsome := (flagOf_isSome_iff b).mpr h
  obtain ⟨v, hv⟩ := Option.isSome_iff_exists.mp hsome
  have hd := flagOf_getD b
  rw [hv] at hd ⊢
  exact congrArg some hd

theorem flagOf_above {b : Byte} (h : 1 < b.toNat) : flagOf b = none := by
  have hsome := flagOf_isSome_iff b
  cases hv : flagOf b with
  | none => rfl
  | some v => simp [hv] at hsome; omega

theorem inputConfig_of_closed (h : s.dec.chain = .closed) (index polarity debounce route : Byte) :
    s.inputConfig index polarity debounce route = (s, .no .chain) := if_pos h

theorem inputConfig_of_bad (hc : s.dec.chain = .opened) {index polarity debounce route : Byte}
    (h : 9 < index.toNat ∨ 1 < polarity.toNat ∨ 1 < route.toNat ∨ (index.toNat = 0 ∧ polarity.toNat = 1)) :
    s.inputConfig index polarity debounce route = (s, .no .badValue) := by
  rw [State.inputConfig, if_neg (by simp [hc])]
  obtain h | h | h | ⟨hi, hp⟩ := h
  · rw [inputOf_above h]
  · rw [flagOf_above h]
    cases inputOf index <;> rfl
  · rw [flagOf_above h]
    cases inputOf index <;> cases flagOf polarity <;> rfl
  · rw [inputOf_index .estop hi, flagOf_of_le (by omega), hp]
    cases flagOf route <;> rfl

theorem inputConfig_of_good (hc : s.dec.chain = .opened) {i : Input} {index polarity debounce route : Byte}
    (hi : index.toNat = inputIndex i) (hp : polarity.toNat ≤ 1) (hr : route.toNat ≤ 1)
    (he : i = .estop → polarity.toNat = 0) :
    s.inputConfig index polarity debounce route =
      (s.configureInput i (polarity.toNat == 1) debounce.toNat (route.toNat == 1), .ack []) := by
  rw [State.inputConfig, if_neg (by simp [hc]), inputOf_index i hi, flagOf_of_le hp, flagOf_of_le hr]
  refine if_neg ?_
  rintro ⟨rfl, h1⟩
  simp [he rfl] at h1

/-- A pending change that is due is taken, and any other is left (R99). -/
theorem takeDue_eq (s : State) (i : Input) (now : Instant) : s.takeDue i now =
    match (s.dio.inputs.get i).pendingSince with
    | none => s
    | some start =>
      if (s.dio.inputs.get i).debounce * 1000 + start.us.val ≤ (now.ms - start.ms).toNat * 1000 + now.us.val then
        s.takeLevel i
      else s := by
  unfold State.takeDue
  dsimp only
  cases (s.dio.inputs.get i).pendingSince with
  | none => rfl
  | some start => simp only [Instant.stood, decide_eq_true_eq]

theorem takeDue_configs (s : State) (i : Input) (now : Instant) : (s.takeDue i now).dio.configs = s.dio.configs := by
  rw [takeDue_eq]
  split
  · rfl
  · split
    · simp [State.takeLevel, State.setInput]
    · rfl

/-- What is taken after a record with the pending change of the input has been written and delivered (R99). -/
theorem takeDue_configured (s : State) (i : Input) (q : InputRec) (hp : q.pendingSince = (s.dio.inputs.get i).pendingSince)
    (now : Instant) (p : Prop) [Decidable p] :
    let u := if ¬ p then (s.setInput i q).deliverInput i else s.setInput i q
    u.takeDue i now =
      let configured := if p then s.setInput i q else (s.setInput i q).deliverInput i
      match (s.dio.inputs.get i).pendingSince with
      | none => configured
      | some start =>
        if q.debounce * 1000 + start.us.val ≤ (now.ms - start.ms).toNat * 1000 + now.us.val then
          State.deliverInput i { configured with
            dio := { configured.dio with inputs := s.dio.inputs.put i { q with level := !q.level, pendingSince := none } } }
        else configured := by
  have hsame : (if ¬ p then (s.setInput i q).deliverInput i else s.setInput i q) =
      (if p then s.setInput i q else (s.setInput i q).deliverInput i) := ite_not ..
  have hdio : (if p then s.setInput i q else (s.setInput i q).deliverInput i).dio = (s.setInput i q).dio := by
    split <;> simp
  dsimp only
  rw [hsame]
  generalize (if p then s.setInput i q else (s.setInput i q).deliverInput i) = u at hdio ⊢
  have hget : u.dio.inputs.get i = q := by rw [hdio]; exact setInput_get s i q
  have htake : u.takeLevel i = State.deliverInput i { u with
      dio := { u.dio with inputs := s.dio.inputs.put i { q with level := !q.level, pendingSince := none } } } := by
    rw [State.takeLevel, hget, State.setInput, hdio]
    dsimp only [State.setInput]
    rw [put_put]
  rw [takeDue_eq, hget, hp, htake]

/-- Settles O20: by the checks in order; a delivery leaves DIO, so the record written is the one in force after it. -/
theorem inputConfigWrites : Obligations.InputConfigWrites := by
  intro s tag index polarity debounce route hf
  refine ⟨fun h => ?_, fun hc h => ?_, fun i hc hi hp hr he => ?_⟩
  · exact exec_refused hf (.inputConfig index polarity debounce route) tag rfl (inputConfig_of_closed h _ _ _ _)
  · exact exec_refused hf (.inputConfig index polarity debounce route) tag rfl (inputConfig_of_bad hc h)
  · refine (exec_acked hf (.inputConfig index polarity debounce route) tag rfl
      (inputConfig_of_good hc hi hp hr he)).trans ?_
    let q : InputRec :=
      { s.dio.inputs.get i with
        inverted := polarity.toNat == 1, debounce := debounceInForce i debounce.toNat, queued := route.toNat == 1 }
    have htaken := takeDue_configured s i q rfl s.dio.configTime (q.inverted = (s.dio.inputs.get i).inverted)
    have hconfigs : ∀ u : State, u.dio.configs = s.dio.configs →
        u.countConfig = { u with dio := { u.dio with configs := s.dio.configs + 1 } } := fun u hu => by
      rw [State.countConfig, hu]
    have hwritten : (if ¬ q.inverted = (s.dio.inputs.get i).inverted then (s.setInput i q).deliverInput i
        else s.setInput i q).dio.configs = s.dio.configs := by
      split <;> simp [State.setInput]
    have hconfigured : s.configureInput i (polarity.toNat == 1) debounce.toNat (route.toNat == 1) = _ :=
      hconfigs _ ((takeDue_configs _ i _).trans hwritten)
    dsimp only at htaken
    rw [hconfigured, htaken]
    cases i <;> rfl

end Sys2Proof.Machine
end

section
/-! SUPPORT. The trips, the opening and the closing of the drive enable chain, and TRIP_CLEAR (chapter Drive Enable Chain). -/

namespace Sys2Proof.Machine

variable {s t : State}

theorem not_closed_of_opened (h : s.dec.chain = .opened) : ¬ s.dec.chain = .closed := by simp [h]

theorem trip_of_mem {c : TripCause} (h : c ∈ s.dec.trips) : s.trip c = s := if_pos h

/-- With the chain CLOSED a new cause joins the set, puts TRIP, and opens the chain (R112). -/
theorem trip_of_closed {c : TripCause} (hn : c ∉ s.dec.trips) (hc : s.dec.chain = .closed) :
    s.trip c = State.openChain (.trip c) (State.put (.trip c)
      { s with dec := { s.dec with trips := s.dec.trips ++ [c],
                                   firstOut := if s.dec.trips = [] then some c else s.dec.firstOut } }) := by
  simp [State.trip, hn, hc]

/-- The servo at an opening of the chain, with the event of a jog or move that ends (R70). -/
theorem servoDisable_eq (s : State) : s.servoDisable =
    if s.xhs.mode = .jog then State.put (.jogStop .chain) { s with xhs := s.xhs.disabled }
    else if s.xhs.mode = .move then State.put (.moveDone false) { s with xhs := s.xhs.disabled }
    else { s with xhs := s.xhs.disabled } := by
  unfold State.servoDisable
  cases s.xhs.mode <;> rfl

/-- Settles O21: the latch of a cause, and an opening of the chain block by block. -/
theorem tripLatchAndOpening : Obligations.TripLatchAndOpening := by
  refine ⟨fun s c => ⟨trip_of_mem, fun hn => ⟨trip_of_opened hn, trip_of_closed hn⟩⟩, fun s cause => ?_⟩
  have htold : (State.put (.chain .opened) { s with dec := { s.dec with chain := .opened, guardMode := false } }).xhs = s.xhs := by
    simp
  have htsq : (State.servoDisable (State.put (.chain .opened)
      { s with dec := { s.dec with chain := .opened, guardMode := false } })).tsq = s.tsq := by simp
  unfold State.openChain State.testChainOpened
  dsimp only
  rw [htsq, servoDisable_eq, htold]
  cases s.tsq.state <;> cases cause <;> rfl

theorem driveOn_of_free (hc : s.dec.chain = .opened) (hb : ¬ (s.ldc.shunt.isSome || s.xhs.monitor.isSome) = true) :
    s.driveOn =
      if (s.missingPermissives s.limitBlocked).any id then
        (s, .refuse .notReady (flagHalf (s.missingPermissives s.limitBlocked)))
      else (s.closeChain, .ack []) :=
  (if_neg (not_closed_of_opened hc)).trans (if_neg hb)

theorem closeChain_eq (s : State) : s.closeChain =
    { State.put (.chain .closed) { s with dec := { s.dec with chain := .closed, guardMode := !s.asserted .guard } } with
      xhs := s.xhs.closed } := by
  rw [State.closeChain]
  dsimp only
  rw [put_xhs]

/-- Settles O22: by the checks of each request in order. -/
theorem driveOnAndOff : Obligations.DriveOnAndOff := by
  refine ⟨fun s tag hf => ⟨fun hc => ?_, fun hc hb => ?_, fun hc hs hm => ?_⟩,
    fun s tag hf => ⟨fun ht => ?_, fun ht hc => ?_, fun ht hc => ⟨?_, (openChain_spec _ s).1⟩⟩⟩
  · exact exec_acked hf .driveOn tag rfl (if_pos hc)
  · refine exec_refused hf .driveOn tag rfl ((if_neg (not_closed_of_opened hc)).trans (if_pos ?_))
    simpa only [Bool.or_eq_true, Option.isSome_iff_ne_none] using hb
  · have hfree : ¬ (s.ldc.shunt.isSome || s.xhs.monitor.isSome) = true := by simp [hs, hm]
    have hlist : s.missingPermissives s.limitBlocked =
        [decide (s.dec.trips ≠ []), !s.asserted .estop, !s.asserted .driveReady,
         decide (s.ldc.table s.ldc.range = []), !s.xhs.monitorProven,
         (s.asserted .limitUp && !s.xhs.escapeUp) || (s.asserted .limitDown && !s.xhs.escapeDown)] := by
      rw [State.missingPermissives, isEmpty_eq, State.rangeValid, Ldc.valid, isEmpty_eq, State.limitBlocked]
      simp
    have hact := driveOn_of_free hc hfree
    rw [hlist] at hact
    refine ⟨fun hmem => ?_, fun hmem => ?_⟩
    · exact exec_refused hf .driveOn tag rfl (hact.trans (if_pos (by simpa using hmem)))
    · refine (exec_acked hf .driveOn tag rfl (hact.trans (if_neg fun h => hmem ?_))).trans ?_
      · simpa using h
      · rw [closeChain_eq]
        rfl
  · exact exec_refused hf .driveOff tag rfl (if_pos ht)
  · exact exec_acked hf .driveOff tag rfl ((if_neg (by simp [ht])).trans (if_neg (not_closed_of_opened hc)))
  · exact exec_acked hf .driveOff tag rfl ((if_neg (by simp [ht])).trans (if_pos hc))

/-! ### TRIP_CLEAR (R122, R123) -/

/-- XHS after TRIP_CLEAR: the escape of a limit that is removed with its switch still asserted (R123). -/
def State.escaped (s : State) : State :=
  { s with xhs := { s.xhs with
      escapeUp := s.xhs.escapeUp || (decide (TripCause.limitUp ∈ s.dec.trips) && s.asserted .limitUp),
      escapeDown := s.xhs.escapeDown || (decide (TripCause.limitDown ∈ s.dec.trips) && s.asserted .limitDown) } }

theorem clearTrips_of_none (h : s.dec.trips.filter s.conditionPresent = []) : s.clearTrips =
    State.put .tripCleared { s.escaped with dec := { s.dec with trips := [], firstOut := none } } := if_pos h

theorem clearTrips_of_some (h : s.dec.trips.filter s.conditionPresent ≠ []) : s.clearTrips =
    { s.escaped with dec := { s.dec with trips := s.dec.trips.filter s.conditionPresent } } := if_neg h

/-- Settles O23: by what TRIP_CLEAR keeps. -/
theorem tripClearJudges : Obligations.TripClearJudges := by
  intro s tag hf present kept escaped
  have hpresent : present = s.conditionPresent := by
    funext c
    cases c <;> rfl
  have hkept : kept = s.dec.trips.filter s.conditionPresent := congrArg (fun p => s.dec.trips.filter p) hpresent
  refine ⟨fun h => ?_, fun h hk => ?_, fun hk => ?_⟩
  · exact exec_acked hf .tripClear tag rfl (if_pos h)
  · rw [hkept] at hk
    have hclear := clearTrips_of_none hk
    have hempty : s.clearTrips.dec.trips = [] := by rw [hclear]; simp
    exact (exec_acked hf .tripClear tag rfl ((if_neg h).trans (if_pos hempty))).trans (by rw [hclear]; rfl)
  · have hne : s.dec.trips ≠ [] := fun h => hk (by rw [hkept, h]; rfl)
    rw [hkept] at hk ⊢
    have hclear := clearTrips_of_some hk
    have hleft : s.clearTrips.dec.trips = s.dec.trips.filter s.conditionPresent := by rw [hclear]
    refine (exec_refused hf .tripClear tag rfl ((if_neg hne).trans (if_neg (by rw [hleft]; exact hk)))).trans ?_
    rw [hleft, hclear]
    rfl

end Sys2Proof.Machine
end

section
/-! SUPPORT. The load channel: a trip does not look at LDC, what a range switch does, and a conversion by its class (chapter
Load Channel). -/

namespace Sys2Proof.Machine

variable {s t : State}

/-! ### A trip neither reads nor changes LDC -/

/-- The state with other items of LDC. -/
def State.withLdc (l : Ldc) (s : State) : State := { s with ldc := l }

theorem put_withLdc (l : Ldc) (e : Event) (s : State) : (s.withLdc l).put e = (s.put e).withLdc l := by
  unfold State.put State.withLdc
  dsimp only
  split <;> rfl

theorem followSet_withLdc (l : Ldc) (c : SourceCause) (s : State) :
    (s.withLdc l).followSet c = (s.followSet c).withLdc l := by
  have hsource : ∀ x o, (s.withLdc l).setSource x o c = (s.setSource x o c).withLdc l := by
    intro x o
    unfold State.setSource
    dsimp only
    rw [apply_ite (State.withLdc l), ← put_withLdc]
    rfl
  exact hsource _ _

theorem sourceAtTestEnd_withLdc (l : Ldc) (s : State) : (s.withLdc l).sourceAtTestEnd = s.sourceAtTestEnd.withLdc l := by
  unfold State.sourceAtTestEnd
  rw [followSet_withLdc]
  rfl

theorem resEnd_withLdc (l : Ldc) (r : EndReason) (s : State) : (s.withLdc l).resEnd r = (s.resEnd r).withLdc l := by
  unfold State.resEnd
  rw [← put_withLdc]
  rfl

theorem settlePending_withLdc (l : Ldc) (r : EndReason) (s : State) :
    (s.withLdc l).settlePending r = (s.settlePending r).withLdc l := by
  have happly : (s.withLdc l).applyPending .testEnd = (s.applyPending .testEnd).withLdc l := by
    unfold State.applyPending
    have hp : (s.withLdc l).tsq.pendingCopy = s.tsq.pendingCopy := rfl
    rw [hp]
    cases s.tsq.pendingCopy with
    | none => rfl
    | some p =>
      exact put_withLdc l (.profileApplied .testEnd) { s with tsq := { s.tsq with active := some p, pendingCopy := none } }
  cases r with
  | abortRequest => rfl
  | _ => exact happly

theorem enterEnded_withLdc (l : Ldc) (r : EndReason) (s : State) : (s.withLdc l).enterEnded r = (s.enterEnded r).withLdc l := by
  have hset : ({ s.withLdc l with tsq := { s.tsq with state := .ended r } } : State) =
      State.withLdc l { s with tsq := { s.tsq with state := .ended r } } := rfl
  unfold State.enterEnded
  dsimp only
  rw [← resEnd_withLdc, ← sourceAtTestEnd_withLdc, ← put_withLdc, ← settlePending_withLdc]
  rfl

theorem testChainOpened_withLdc (l : Ldc) (c : OpenCause) (s : State) :
    (s.withLdc l).testChainOpened c = (s.testChainOpened c).withLdc l := by
  have ht : (s.withLdc l).tsq.state = s.tsq.state := rfl
  unfold State.testChainOpened
  rw [ht]
  split
  · exact enterEnded_withLdc l _ s
  · exact enterEnded_withLdc l _ s
  · exact enterEnded_withLdc l _ s
  · rfl

theorem servoDisable_withLdc (l : Ldc) (s : State) : (s.withLdc l).servoDisable = s.servoDisable.withLdc l := by
  rw [servoDisable_eq, servoDisable_eq, apply_ite (State.withLdc l), apply_ite (State.withLdc l), ← put_withLdc, ← put_withLdc]
  rfl

theorem openChain_withLdc (l : Ldc) (c : OpenCause) (s : State) : (s.withLdc l).openChain c = (s.openChain c).withLdc l := by
  unfold State.openChain
  dsimp only
  rw [← testChainOpened_withLdc, ← servoDisable_withLdc, ← put_withLdc]
  rfl

/-- A trip does with other items of LDC what it does without. -/
theorem trip_withLdc (l : Ldc) (c : TripCause) (s : State) : (s.withLdc l).trip c = (s.trip c).withLdc l := by
  unfold State.trip
  dsimp only
  rw [apply_ite (State.withLdc l), apply_ite (State.withLdc l), ← openChain_withLdc, ← put_withLdc]
  rfl

theorem reportOverload_withLdc (l : Ldc) (s : State) : (s.withLdc l).reportOverload = s.reportOverload.withLdc l :=
  trip_withLdc l .overload { s with dec := { s.dec with overloadPresent := true } }

/-! ### Abandoning tare and shunt check, and range switches (R12, R17, R22) -/

@[simp] theorem withLdc_ldc (l : Ldc) (s : State) : (s.withLdc l).ldc = l := rfl

@[simp] theorem withLdc_withLdc (l l' : Ldc) (s : State) : (s.withLdc l).withLdc l' = s.withLdc l' := rfl

theorem withLdc_self (s : State) : s.withLdc s.ldc = s := rfl

theorem putAll_withLdc (l : Ldc) (es : List Event) (s : State) :
    State.putAll es (s.withLdc l) = (State.putAll es s).withLdc l := by
  induction es generalizing s with
  | nil => rfl
  | cons e es ih => rw [State.putAll, put_withLdc, ih, State.putAll]

theorem putAll_append (es es' : List Event) (s : State) :
    State.putAll (es ++ es') s = State.putAll es' (State.putAll es s) := by
  induction es generalizing s with
  | nil => rfl
  | cons e es ih => exact ih _

/-- The events of a tare and a shunt check that are abandoned, the check having started in a range (R17, R22). -/
def Ldc.abandonEvents (l : Ldc) (r : LoadRange) : List Event :=
  (if l.tareProgress.isSome then [.tareDone false l.tare] else []) ++
  (if l.shunt.isSome then [.shuntDone .abandoned r none] else [])

/-- LDC with the tare and the shunt check abandoned (R17, R22). -/
def Ldc.abandoned (l : Ldc) : Ldc :=
  { l with tareProgress := none, shunt := none, shuntEn := if l.shunt.isSome then false else l.shuntEn,
           settle := if l.shunt.isSome && l.shuntEn then 8 else l.settle }

theorem abandon_withLdc (l : Ldc) (r : LoadRange) (s : State) :
    (s.withLdc l).abandonTare.abandonShunt r = (State.putAll (l.abandonEvents r) s).withLdc l.abandoned := by
  have htare : (s.withLdc l).abandonTare = (State.putAll (if l.tareProgress.isSome then [.tareDone false l.tare] else []) s).withLdc
      { l with tareProgress := none } := by
    unfold State.abandonTare
    rw [withLdc_ldc]
    cases h : l.tareProgress with
    | none =>
      show s.withLdc l = s.withLdc { l with tareProgress := none }
      rw [← h]
    | some k => exact put_withLdc { l with tareProgress := none } _ s
  rw [htare, abandonShunt_eq, withLdc_ldc, Ldc.abandonEvents, putAll_append]
  generalize State.putAll (if l.tareProgress.isSome then [.tareDone false l.tare] else []) s = u
  cases h : l.shunt with
  | none => simp [State.putAll, Ldc.abandoned, h]
  | some k =>
    have hput := put_withLdc
      { l with tareProgress := none, shunt := none, shuntEn := false, settle := if l.shuntEn then 8 else l.settle }
      (.shuntDone .abandoned r none) u
    simpa [State.putAll, Ldc.abandoned, h, State.withLdc] using hput

/-- LDC after a range switch (R12). -/
def Ldc.switched (l : Ldc) (r : LoadRange) : Ldc := { l with range := r, settle := 2, down := 0 }.abandoned

theorem switchRange_withLdc (l : Ldc) (r : LoadRange) (s : State) :
    (s.withLdc l).switchRange r = (State.putAll (.range r :: l.abandonEvents l.range) s).withLdc (l.switched r) := by
  have hput : State.put (.range r) { s.withLdc l with ldc := { l with range := r, settle := 2, down := 0 } } =
      (s.put (.range r)).withLdc { l with range := r, settle := 2, down := 0 } := put_withLdc _ _ s
  unfold State.switchRange
  dsimp only [withLdc_ldc]
  rw [hput, abandon_withLdc]
  rfl

theorem setRangeMode_eq (m : RangeMode) (s : State) : s.setRangeMode m =
    match m.named with
    | none => { s with ldc := { s.ldc with mode := m, down := 0 } }
    | some r =>
      if s.ldc.range = r then { s with ldc := { s.ldc with mode := m, down := 0 } }
      else State.switchRange r { s with ldc := { s.ldc with mode := m, down := 0 } } := by
  unfold State.setRangeMode
  dsimp only
  cases m.named with
  | none => rfl
  | some r => simp only [eq_comm]

theorem rangeModeOf_eq (b : Byte) : rangeModeOf b =
    if b.toNat = 0 then some .auto else if b.toNat = 1 then some .fine else if b.toNat = 2 then some .wide else none := by
  unfold rangeModeOf
  split <;> simp_all

/-- Settles O25: a range switch with its events, and the mode code of LOAD_RANGE. -/
theorem loadRangeSwitch : Obligations.LoadRangeSwitch := by
  refine ⟨fun s r => ?_, fun s tag mode hf => ?_⟩
  · have hswitch := switchRange_withLdc s.ldc r s
    rw [withLdc_self, ← putAll_withLdc] at hswitch
    exact hswitch
  · refine (exec_answered hf (.loadRange mode) tag rfl).trans (congrArg _ ?_)
    have hact : s.act (.loadRange mode) =
        if s.testing then (s, .no .state)
        else match rangeModeOf mode with
          | none => (s, .no .badValue)
          | some m => (s.setRangeMode m, .ack []) := rfl
    rw [hact, rangeModeOf_eq]
    by_cases ht : s.testing = true
    · simp only [ht, if_true]
      rfl
    · simp only [ht]
      by_cases h0 : mode.toNat = 0
      · simp only [h0, if_true, setRangeMode_eq]
        rfl
      · by_cases h1 : mode.toNat = 1
        · simp only [h1, if_true, setRangeMode_eq]
          rfl
        · by_cases h2 : mode.toNat = 2
          · simp only [h2, if_true, setRangeMode_eq]
            rfl
          · simp only [h0, h1, h2]
            rfl

end Sys2Proof.Machine
end

section
/-! SUPPORT. A load conversion in LDC by its class (R2 to R23), and the requests of tare and shunt check. -/

namespace Sys2Proof.Machine

variable {s t x : State} {l : Ldc}

/-! ### SHUNT_CONFIG, TARE and SHUNT_CHECK (R15, R18, R19) -/

theorem busy_of_idle (h : ¬ (l.tareProgress ≠ none ∨ l.shunt ≠ none)) : ¬ l.busy = true := fun hb => h ((busy_iff l).mp hb)

theorem rangeValid_iff (s : State) : s.rangeValid = true ↔ s.ldc.table s.ldc.range ≠ [] := by
  simp [State.rangeValid, Ldc.valid]

/-- SHUNT_CONFIG outside a shunt check by its range and its two numbers (R18). -/
theorem shuntConfig_of_free (h : s.ldc.shunt = none) (range : Byte) (expected tolerance : Word) :
    s.shuntConfig range expected tolerance =
      if 1 < range.toNat ∨ expected.toInt < -8000000 ∨ 8000000 < expected.toInt ∨ tolerance.toInt < 0 ∨
          8000000 < tolerance.toInt then (s, .no .badValue)
      else if range.toNat = 0 then ({ s with ldc := { s.ldc with fineShunt := ⟨expected.toInt, tolerance.toInt⟩ } }, .ack [])
      else ({ s with ldc := { s.ldc with wideShunt := ⟨expected.toInt, tolerance.toInt⟩ } }, .ack []) := by
  have hnumbers : (inRange (-loadLimit) loadLimit expected.toInt && inRange 0 loadLimit tolerance.toInt) = true ↔
      ¬ (expected.toInt < -8000000 ∨ 8000000 < expected.toInt ∨ tolerance.toInt < 0 ∨ 8000000 < tolerance.toInt) := by
    simp only [Bool.and_eq_true, inRange_iff, loadLimit]
    omega
  rw [State.shuntConfig, if_neg (by simp [h])]
  obtain h0 | h1 | h2 : range.toNat = 0 ∨ range.toNat = 1 ∨ 1 < range.toNat := by omega
  · rw [rangeOf_zero h0]
    simp only [hnumbers, h0, ite_not, Nat.not_lt_zero, false_or, if_true]
    rfl
  · rw [rangeOf_one h1]
    simp only [hnumbers, h1, ite_not, lt_irrefl, false_or, one_ne_zero, if_false]
    rfl
  · rw [rangeOf_above h2]
    simp only [h2, true_or, if_true]

/-- Settles O27: the checks of each request in order. -/
theorem shuntAndTareRequests : Obligations.ShuntAndTareRequests := by
  refine ⟨fun s tag range expected tolerance hf => ?_, fun s tag hf => ⟨fun ht => ?_, fun ht hb => ?_, fun ht hb hi => ?_,
    fun ht hb hi => ?_, fun ht => ?_, fun hc ht hb => ?_, fun hc ht hb hi => ?_, fun hc ht hb hi => ?_⟩⟩
  · refine (exec_answered hf (.shuntConfig range expected tolerance) tag rfl).trans (congrArg _ ?_)
    by_cases hs : s.ldc.shunt = none
    · have hact : s.act (.shuntConfig range expected tolerance) = _ := shuntConfig_of_free hs range expected tolerance
      rw [hact, if_neg (not_not.mpr hs)]
      split_ifs <;> rfl
    · have hact : s.act (.shuntConfig range expected tolerance) = (s, .no .busy) :=
        if_pos (Option.isSome_iff_ne_none.mpr hs)
      rw [hact, if_pos hs]
      rfl
  · exact exec_refused hf .tare tag rfl (if_pos ht)
  · exact exec_refused hf .tare tag rfl ((if_neg (by simp [ht])).trans (if_pos ((busy_iff _).mpr hb)))
  · exact exec_refused hf .tare tag rfl ((if_neg (by simp [ht])).trans ((if_neg (busy_of_idle hb)).trans
      (if_pos (by simp [State.rangeValid, Ldc.valid, hi]))))
  · exact exec_acked hf .tare tag rfl ((if_neg (by simp [ht])).trans ((if_neg (busy_of_idle hb)).trans
      (if_neg (by simp [State.rangeValid, Ldc.valid, hi]))))
  · exact exec_refused hf .shuntCheck tag rfl (if_pos ht)
  · exact exec_refused hf .shuntCheck tag rfl ((if_neg (by simp [hc, ht])).trans (if_pos ((busy_iff _).mpr hb)))
  · exact exec_refused hf .shuntCheck tag rfl ((if_neg (by simp [hc, ht])).trans ((if_neg (busy_of_idle hb)).trans
      (if_pos (by simp [State.rangeValid, Ldc.valid, hi]))))
  · exact exec_acked hf .shuntCheck tag rfl ((if_neg (by simp [hc, ht])).trans ((if_neg (busy_of_idle hb)).trans
      (if_neg (by simp [State.rangeValid, Ldc.valid, hi]))))

/-! ### The class of a conversion and its overload test (R2, R8, R23) -/

theorem saturatedCode_iff (c : Int) : saturatedCode c = true ↔ c = -8388608 ∨ c = 8388607 := by
  simp [saturatedCode]

theorem fineAuto_iff (l : Ldc) : l.fineAuto = true ↔ l.mode = .auto ∧ l.range = .fine := by
  simp [Ldc.fineAuto]

/-- The overload test neither reads nor changes LDC, but for the mode and the range. -/
theorem testOverload_withLdc (k : LoadClass) (c : Int) (r : LoadResult) (hl : l.fineAuto = s.ldc.fineAuto) :
    State.testOverload k c r (s.withLdc l) = (s.testOverload k c r).withLdc l := by
  unfold State.testOverload
  rw [withLdc_ldc, hl, reportOverload_withLdc]
  have hlimit : (s.withLdc l).overloadLimit = s.overloadLimit := rfl
  rw [hlimit]
  split
  · split <;> rfl
  · split
    · split <;> rfl
    · rfl

@[simp] theorem afterResult_fineAuto (k : LoadClass) (r : LoadResult) (l : Ldc) : (l.afterResult k r).fineAuto = l.fineAuto := rfl

/-- LDC's work at a conversion: the overload test, with LDC as the result leaves it, then the switch, the down count, and tare
and shunt check (R2). -/
theorem convertLoad_eq (c : Int) (s : State) :
    let k := s.loadClass c
    let r := s.loadResult k c
    (s.convertLoad c).1 = State.advanceProgress k c (State.countDown k c s.testing s.ldc.busy
      (State.conversionSwitch k c ((s.testOverload k c r).withLdc (s.ldc.afterResult k r)))) := by
  dsimp only
  rw [← testOverload_withLdc _ c _ (afterResult_fineAuto _ _ s.ldc)]
  rfl

theorem conversionSwitch_withLdc (k : LoadClass) (c : Int) : State.conversionSwitch k c (x.withLdc l) =
    if k = .settling then
      (if l.settle = 0 ∧ l.mode = .fine ∧ l.range = .wide then (x.withLdc l).switchRange .fine else x.withLdc l)
    else if l.fineAuto ∧ 7549746 ≤ mag c then (x.withLdc l).switchRange .wide
    else x.withLdc l := rfl

theorem countDown_withLdc (k : LoadClass) (c : Int) (testing busy : Bool) : State.countDown k c testing busy (x.withLdc l) =
    if k = .settling then x.withLdc l
    else if testing || busy || l.fineTable.isEmpty || k != .ordinary || !lowCode c then x.withLdc { l with down := 0 }
    else if l.mode = .auto ∧ l.range = .wide then
      if 50 ≤ l.down + 1 then (x.withLdc l).switchRange .fine else x.withLdc { l with down := l.down + 1 }
    else x.withLdc l := rfl

/-- With no tare and no shunt check in progress nothing is advanced or abandoned. -/
theorem advanceProgress_idle (k : LoadClass) (c : Int) (ht : s.ldc.tareProgress = none) (hs : s.ldc.shunt = none) :
    State.advanceProgress k c s = s := by
  have htare : s.advanceTare k c = s := by
    unfold State.advanceTare
    rw [ht]
    split <;> simp_all
  unfold State.advanceProgress
  rw [htare]
  split
  · simp only [State.abandonTare, ht, State.abandonShunt, hs]
  · simp only [State.advanceShunt, hs]

/-- Without a tare, by a conversion of any class, and in the baseline of a shunt check by one that is not ordinary, nothing is
advanced (R16, R20). -/
theorem advanceProgress_passed (k : LoadClass) (c : Int) (hk : k ≠ .ordinary) (hc : ¬ (k ≠ .settling ∧ saturatedCode c))
    (hs : s.ldc.shuntHolds = false) : State.advanceProgress k c s = s := by
  have htare : s.advanceTare k c = s := by
    unfold State.advanceTare
    cases k with
    | ordinary => exact absurd rfl hk
    | _ => rfl
  unfold State.advanceProgress
  rw [if_neg hc, htare]
  unfold State.advanceShunt
  cases hp : s.ldc.shunt with
  | none => rfl
  | some p =>
    have hbase : p.phase = .baseline := by simpa [Ldc.shuntHolds, hp] using hs
    dsimp only
    rw [hbase]
    cases k with
    | ordinary => exact absurd rfl hk
    | _ => rfl

/-! ### The classes (R2) -/

theorem loadClass_settling (c : Int) (h : 0 < s.ldc.settle) : s.loadClass c = .settling := if_pos h

theorem loadClass_shuntHeld (c : Int) (h : s.ldc.settle = 0) (hs : s.ldc.shuntHolds = true) :
    s.loadClass c = .shuntHeld := (if_neg (by omega)).trans (if_pos hs)

theorem loadClass_saturated {c : Int} (h : s.ldc.settle = 0) (hs : s.ldc.shuntHolds = false) (hc : saturatedCode c = true) :
    s.loadClass c = .saturated := (if_neg (by omega)).trans ((if_neg (by simp [hs])).trans (if_pos hc))

theorem loadClass_noTable {c : Int} (h : s.ldc.settle = 0) (hs : s.ldc.shuntHolds = false) (hc : ¬ saturatedCode c = true)
    (ht : s.ldc.table s.ldc.range = []) : s.loadClass c = .noTable :=
  (if_neg (by omega)).trans ((if_neg (by simp [hs])).trans ((if_neg hc).trans (if_neg (by simp [rangeValid_iff, ht]))))

theorem loadClass_ordinary {c : Int} (h : s.ldc.settle = 0) (hs : s.ldc.shuntHolds = false) (hc : ¬ saturatedCode c = true)
    (ht : s.ldc.table s.ldc.range ≠ []) : s.loadClass c = .ordinary :=
  (if_neg (by omega)).trans ((if_neg (by simp [hs])).trans ((if_neg hc).trans (if_pos ((rangeValid_iff s).mpr ht))))

theorem table_ne_nil_of_gross {t : List CalPoint} {c g : Int} (h : grossLoad t c = some g) : t ≠ [] := by
  rintro rfl
  simp [grossLoad] at h

/-! ### A range switch ends LDC's work (R10 to R12) -/

theorem up_not_low {c : Int} (h : 7549746 ≤ mag c) : lowCode c = false := by
  simp only [lowCode, decide_eq_false_iff_not]
  omega

/-- After a range switch a conversion that resets the down count changes nothing more. -/
theorem switched_done (k : LoadClass) (c : Int) (r : LoadRange) (testing busy : Bool) (hk : k ≠ .settling)
    (h : k ≠ .ordinary ∨ lowCode c = false) :
    State.advanceProgress k c (State.countDown k c testing busy ((x.withLdc l).switchRange r)) = (x.withLdc l).switchRange r := by
  have hreset : ∀ b : Bool, (testing || busy || b || k != .ordinary || !lowCode c) = true := by
    intro b
    obtain h | h := h <;> simp [h]
  rw [switchRange_withLdc, countDown_withLdc, if_neg hk, if_pos (hreset _)]
  exact advanceProgress_idle k c rfl rfl

/-- An up-switch by a conversion that is not settling ends LDC's work (R10). -/
theorem upSwitch_done (k : LoadClass) (c : Int) (testing busy : Bool) (hk : k ≠ .settling) (hf : l.fineAuto = true)
    (hc : 7549746 ≤ mag c) :
    State.advanceProgress k c (State.countDown k c testing busy (State.conversionSwitch k c (x.withLdc l))) =
      (x.withLdc l).switchRange .wide := by
  rw [conversionSwitch_withLdc, if_neg hk, if_pos ⟨hf, hc⟩]
  exact switched_done k c .wide testing busy hk (.inr (up_not_low hc))

/-- Without an up-switch a conversion that is not settling and not ordinary makes the down count 0 (R11). -/
theorem noSwitch_reset (k : LoadClass) (c : Int) (testing busy : Bool) (hk : k ≠ .settling) (ho : k ≠ .ordinary)
    (hs : ¬ (l.fineAuto = true ∧ 7549746 ≤ mag c)) :
    State.countDown k c testing busy (State.conversionSwitch k c (x.withLdc l)) = x.withLdc { l with down := 0 } := by
  rw [conversionSwitch_withLdc, if_neg hk, if_neg hs, countDown_withLdc, if_neg hk, if_pos (by simp [ho])]

/-! ### Settling, no table, shunt-held and saturated conversions -/

/-- The last good net load is kept by a held result. -/
theorem afterResult_held (k : LoadClass) (l : Ldc) (hk : k ≠ .settling) (hn : k ≠ .noTable) (r : LoadResult)
    (hr : r.held = true) : l.afterResult k r = l := by
  obtain ⟨load, held, clamped⟩ := r
  dsimp only at hr
  subst hr
  simp [Ldc.afterResult, hk, hn]

theorem testOverload_held (k : LoadClass) (c : Int) (r : LoadResult) (hc : ¬ (k ≠ .settling ∧ saturatedCode c = true))
    (hr : r.held = true) : s.testOverload k c r = s := by
  obtain ⟨load, held, clamped⟩ := r
  dsimp only at hr
  subst hr
  exact if_neg hc

theorem testOverload_saturated (k : LoadClass) (c : Int) (r : LoadResult) (hk : k ≠ .settling) (hc : saturatedCode c = true) :
    s.testOverload k c r = if s.ldc.fineAuto then s else s.reportOverload := if_pos ⟨hk, hc⟩

/-- A settling conversion counts down, and at the end of settling switches to a kept FINE mode (R6). -/
theorem convertLoad_settling (c : Int) (h : 0 < s.ldc.settle) (hs : s.ldc.shuntHolds = false) :
    (s.convertLoad c).1 =
      if s.ldc.settle = 1 ∧ s.ldc.mode = .fine ∧ s.ldc.range = .wide then
        State.switchRange .fine (s.withLdc { s.ldc with settle := 0 })
      else s.withLdc { s.ldc with settle := s.ldc.settle - 1 } := by
  have hafter : s.ldc.afterResult .settling s.ldc.heldResult = { s.ldc with settle := s.ldc.settle - 1 } := by
    simp [Ldc.afterResult, Ldc.heldResult]
  have hnot : ¬ (LoadClass.settling ≠ .settling ∧ saturatedCode c = true) := fun hn => hn.1 rfl
  rw [convertLoad_eq, loadClass_settling c h, State.loadResult, testOverload_held .settling c _ hnot rfl, hafter,
    conversionSwitch_withLdc, if_pos rfl]
  dsimp only
  by_cases hend : s.ldc.settle = 1 ∧ s.ldc.mode = .fine ∧ s.ldc.range = .wide
  · obtain ⟨h1, hm, hr⟩ := hend
    rw [if_pos ⟨by omega, hm, hr⟩, if_pos ⟨h1, hm, hr⟩, h1]
    rw [switchRange_withLdc]
    exact advanceProgress_idle .settling c rfl rfl
  · rw [if_neg (fun hn => hend ⟨by omega, hn.2⟩), if_neg hend]
    exact advanceProgress_passed .settling c (by simp) hnot hs

/-- A conversion without a table (R7). -/
theorem convertLoad_noTable {c : Int} (h : s.ldc.settle = 0) (hs : s.ldc.shuntHolds = false)
    (hc : ¬ saturatedCode c = true) (ht : s.ldc.table s.ldc.range = []) :
    (s.convertLoad c).1 =
      if s.ldc.fineAuto = true ∧ 7549746 ≤ mag c then State.switchRange .wide (s.withLdc { s.ldc with lastGood := none })
      else s.withLdc { s.ldc with lastGood := none, down := 0 } := by
  have hnot : ¬ (LoadClass.noTable ≠ .settling ∧ saturatedCode c = true) := fun hn => hc hn.2
  have htest : s.testOverload .noTable c { load := none, held := false, clamped := false } = s := if_neg hnot
  have hafter : s.ldc.afterResult .noTable { load := none, held := false, clamped := false } = { s.ldc with lastGood := none } := by
    simp [Ldc.afterResult]
  rw [convertLoad_eq, loadClass_noTable h hs hc ht, State.loadResult, htest, hafter]
  split
  case isTrue hup => exact upSwitch_done .noTable c s.testing s.ldc.busy (by simp) hup.1 hup.2
  case isFalse hup =>
    rw [noSwitch_reset (l := { s.ldc with lastGood := none }) .noTable c s.testing s.ldc.busy (by simp) (by simp) hup]
    exact advanceProgress_passed .noTable c (by simp) hnot hs

theorem mag_of_saturated {c : Int} (hc : saturatedCode c = true) : 7549746 ≤ mag c := by
  obtain rfl | rfl := (saturatedCode_iff c).mp hc <;> decide

/-- In FINE under AUTO a saturated code, and a shunt-held one at 90 % of full code, switches up and leaves the last good net
load (R8, R10, R20). -/
theorem convertLoad_heldUp {c : Int} (h : s.ldc.settle = 0) (hf : s.ldc.fineAuto = true)
    (hc : saturatedCode c = true ∨ (s.ldc.shuntHolds = true ∧ 7549746 ≤ mag c)) :
    (s.convertLoad c).1 = State.switchRange .wide s := by
  have hmag : 7549746 ≤ mag c := hc.elim mag_of_saturated And.right
  have hfinish : ∀ k : LoadClass, k ≠ .settling → k ≠ .noTable → k ≠ .ordinary → s.loadClass c = k →
      (s.loadResult k c).held = true → (s.convertLoad c).1 = State.switchRange .wide s := by
    intro k hk hn ho hclass hheld
    have htest : s.testOverload k c (s.loadResult k c) = s := by
      by_cases hsat : saturatedCode c = true
      · rw [testOverload_saturated k c _ hk hsat, if_pos hf]
      · exact testOverload_held k c _ (fun hn => hsat hn.2) hheld
    rw [convertLoad_eq, hclass, htest, afterResult_held k s.ldc hk hn _ hheld]
    exact upSwitch_done k c s.testing s.ldc.busy hk hf hmag
  by_cases hs : s.ldc.shuntHolds = true
  · exact hfinish .shuntHeld (by simp) (by simp) (by simp) (loadClass_shuntHeld c h hs) rfl
  · have hsat : saturatedCode c = true := hc.elim id fun hn => absurd hn.1 hs
    refine hfinish .saturated (by simp) (by simp) (by simp) (loadClass_saturated h (by simpa using hs) hsat) ?_
    simp [State.loadResult, State.saturatedResult, hf, Ldc.heldResult]

/-- A saturated code that does not switch reports OVERLOAD, and abandons a tare and a shunt check (R8, R17, R22). -/
theorem convertLoad_saturated {c : Int} (h : s.ldc.settle = 0) (hf : s.ldc.fineAuto = false) (hc : saturatedCode c = true) :
    (s.convertLoad c).1 = (State.putAll (s.ldc.abandonEvents s.ldc.range) s.reportOverload).withLdc
      { s.ldc with
        lastGood := if s.ldc.shuntHolds = true ∨ s.ldc.table s.ldc.range = [] then s.ldc.lastGood
          else some (if 0 < c then 8000000 else -8000000)
        down := 0 }.abandoned := by
  have hfinish : ∀ (k : LoadClass) (good : Option Int), k ≠ .settling → k ≠ .ordinary → s.loadClass c = k →
      s.ldc.afterResult k (s.loadResult k c) = { s.ldc with lastGood := good } →
      (s.convertLoad c).1 = (State.putAll (s.ldc.abandonEvents s.ldc.range) s.reportOverload).withLdc
        { s.ldc with lastGood := good, down := 0 }.abandoned := by
    intro k good hk ho hclass hafter
    rw [convertLoad_eq, hclass, testOverload_saturated k c _ hk hc, hf, hafter]
    dsimp only
    have hno : ¬ (({ s.ldc with lastGood := good } : Ldc).fineAuto = true ∧ 7549746 ≤ mag c) := by
      rintro ⟨hn, _⟩
      exact absurd (hf.symm.trans hn) (by simp)
    rw [noSwitch_reset k c s.testing s.ldc.busy hk ho hno]
    exact (if_pos ⟨hk, hc⟩).trans (abandon_withLdc _ _ _)
  by_cases hs : s.ldc.shuntHolds = true
  · rw [if_pos (.inl hs)]
    exact hfinish .shuntHeld _ (by simp) (by simp) (loadClass_shuntHeld c h hs)
      (afterResult_held _ _ (by simp) (by simp) _ rfl)
  · refine hfinish .saturated _ (by simp) (by simp) (loadClass_saturated h (by simpa using hs) hc) ?_
    by_cases ht : s.ldc.table s.ldc.range = []
    · have hvalid : ¬ s.rangeValid = true := by simp [rangeValid_iff, ht]
      simp [State.loadResult, State.saturatedResult, hf, hvalid, ht, Ldc.afterResult]
    · have hvalid : s.rangeValid = true := (rangeValid_iff s).mpr ht
      simp [State.loadResult, State.saturatedResult, hf, hvalid, ht, hs, Ldc.afterResult, loadLimit]

/-! ### Ordinary conversions (R4, R5, R10, R11, R23) -/

/-- The overload limit of the test state (R23). -/
theorem overloadLimit_eq (s : State) : s.overloadLimit =
    (match s.testing, s.tsq.active with
     | true, some p => p.spec.testOverload
     | _, _ => s.xhs.config.frameOverload) := rfl

/-- The overload test of a load that is not held (R23, R120). -/
def State.testedLoad (net : Int) (s : State) : State :=
  if s.overloadLimit < mag net then s.reportOverload else s.noOverload

/-- An ordinary conversion: the net load is tested and becomes the last good one, and then the switch, the down count, and
tare and shunt check follow. -/
theorem convertLoad_ordinary {c g : Int} (h : s.ldc.settle = 0) (hs : s.ldc.shuntHolds = false)
    (hc : ¬ saturatedCode c = true) (hg : grossLoad (s.ldc.table s.ldc.range) c = some g) :
    s.loadClass c = .ordinary ∧ s.loadResult .ordinary c = s.ldc.netResult g ∧
    (s.convertLoad c).1 = State.advanceProgress .ordinary c (State.countDown .ordinary c s.testing s.ldc.busy
      (State.conversionSwitch .ordinary c ((s.testedLoad (clampLoad (g - s.ldc.tare))).withLdc
        { s.ldc with lastGood := some (clampLoad (g - s.ldc.tare)) }))) := by
  have hclass := loadClass_ordinary h hs hc (table_ne_nil_of_gross hg)
  have hresult : s.loadResult .ordinary c = s.ldc.netResult g := by
    simp [State.loadResult, State.gross, hg]
  have htest : s.testOverload .ordinary c (s.ldc.netResult g) = s.testedLoad (clampLoad (g - s.ldc.tare)) :=
    if_neg fun hn => hc hn.2
  have hafter : s.ldc.afterResult .ordinary (s.ldc.netResult g) =
      { s.ldc with lastGood := some (clampLoad (g - s.ldc.tare)) } := by
    simp [Ldc.afterResult, Ldc.netResult]
  refine ⟨hclass, hresult, ?_⟩
  rw [convertLoad_eq, hclass, hresult, htest, hafter]

theorem not_saturated {c : Int} (h : c ≠ -8388608) (h' : c ≠ 8388607) : ¬ saturatedCode c = true := by
  simp [saturatedCode_iff, h, h']

/-- The part's next state at a load conversion has LDC and DEC as the conversion leaves them. -/
theorem exec_loadConversion (s : State) (raw : BitVec 24) : ∃ t, exec (.loadConversion raw) s = .next t ∧
    t = (s.loadConversion raw.toInt).kick ∧ t.ldc = (s.convertLoad raw.toInt).1.ldc ∧
    t.dec = (s.convertLoad raw.toInt).1.dec :=
  ⟨_, rfl, rfl, by simp [State.loadConversion], by simp [State.loadConversion]⟩

theorem mag_ge_iff (c : Int) (n : Nat) : (n : Int) ≤ mag c ↔ n ≤ c.natAbs := by
  unfold mag
  omega

theorem lowCode_iff (c : Int) : lowCode c = true ↔ c.natAbs ≤ 629145 := by
  unfold lowCode mag
  rw [decide_eq_true_eq]
  omega

theorem shuntHolds_of_none (h : l.shunt = none) : l.shuntHolds = false := by
  simp [Ldc.shuntHolds, h]

theorem switched_idle (ht : l.tareProgress = none) (hs : l.shunt = none) (r : LoadRange) :
    l.switched r = { l with range := r, settle := 2, down := 0 } := by
  simp [Ldc.switched, Ldc.abandoned, ht, hs]

theorem not_busy_of_none (ht : l.tareProgress = none) (hs : l.shunt = none) : l.busy = false := by
  simp [Ldc.busy, ht, hs]

/-- Without an up-switch and with no work in progress an ordinary conversion ends with the down count (R11). -/
theorem countDown_ordinary {c : Int} (hup : ¬ (l.fineAuto = true ∧ 7549746 ≤ mag c)) (testing : Bool)
    (ht : l.tareProgress = none) (hs : l.shunt = none) :
    (State.advanceProgress .ordinary c (State.countDown .ordinary c testing false
      (State.conversionSwitch .ordinary c (x.withLdc l)))).ldc =
      if testing || l.fineTable.isEmpty || !lowCode c then { l with down := 0 }
      else if l.mode = .auto ∧ l.range = .wide then
        if 50 ≤ l.down + 1 then { l with range := .fine, settle := 2, down := 0 } else { l with down := l.down + 1 }
      else l := by
  rw [conversionSwitch_withLdc, if_neg (by simp), if_neg hup, countDown_withLdc, if_neg (by simp)]
  simp only [Bool.or_false, bne_self_eq_false]
  split
  · rw [advanceProgress_idle .ordinary c ht hs]
    rfl
  · split
    · split
      · rw [switchRange_withLdc, advanceProgress_idle .ordinary c rfl rfl, withLdc_ldc, switched_idle ht hs]
      · rw [advanceProgress_idle .ordinary c ht hs]
        rfl
    · rw [advanceProgress_idle .ordinary c ht hs]
      rfl

/-- The first clause of O29: an ordinary conversion with no work in progress. -/
theorem ordinary_idle (s : State) (raw : BitVec 24) (g : Int) (h : s.ldc.settle = 0) (hs : s.ldc.shunt = none)
    (ht : s.ldc.tareProgress = none) (hc : ¬ saturatedCode raw.toInt = true)
    (hg : grossLoad (s.ldc.table s.ldc.range) raw.toInt = some g) :
    let net := clampLoad (g - s.ldc.tare)
    let low : Prop := raw.toInt.natAbs ≤ 629145 ∧ s.testing = false ∧ s.ldc.fineTable ≠ []
    let upSwitch : Prop := s.ldc.mode = .auto ∧ s.ldc.range = .fine ∧ 7549746 ≤ raw.toInt.natAbs
    let counting : Prop := s.ldc.mode = .auto ∧ s.ldc.range = .wide ∧ low
    let l := (s.convertLoad raw.toInt).1.ldc
    (upSwitch → l = { s.ldc with lastGood := some net, range := .wide, settle := 2, down := 0 }) ∧
    (¬ upSwitch → ¬ low → l = { s.ldc with lastGood := some net, down := 0 }) ∧
    (counting → s.ldc.down < 49 → l = { s.ldc with lastGood := some net, down := s.ldc.down + 1 }) ∧
    (counting → 49 ≤ s.ldc.down → l = { s.ldc with lastGood := some net, range := .fine, settle := 2, down := 0 }) ∧
    (¬ upSwitch → low → ¬ counting → l = { s.ldc with lastGood := some net }) := by
  obtain ⟨_, _, hconvert⟩ := convertLoad_ordinary h (shuntHolds_of_none hs) hc hg
  have hswitch : s.ldc.fineAuto = true ∧ 7549746 ≤ mag raw.toInt ↔
      s.ldc.mode = .auto ∧ s.ldc.range = .fine ∧ 7549746 ≤ raw.toInt.natAbs := by
    rw [fineAuto_iff, and_assoc, ← mag_ge_iff]
    rfl
  have hlow : (s.testing || s.ldc.fineTable.isEmpty || !lowCode raw.toInt) = true ↔
      ¬ (raw.toInt.natAbs ≤ 629145 ∧ s.testing = false ∧ s.ldc.fineTable ≠ []) := by
    rw [← lowCode_iff]
    cases s.testing <;> cases lowCode raw.toInt <;> simp
  have hcount : ∀ hup : ¬ (s.ldc.fineAuto = true ∧ 7549746 ≤ mag raw.toInt), _ := fun hup =>
    countDown_ordinary (x := s.testedLoad (clampLoad (g - s.ldc.tare)))
      (l := { s.ldc with lastGood := some (clampLoad (g - s.ldc.tare)) }) hup s.testing ht hs
  rw [not_busy_of_none ht hs] at hconvert
  rw [← hconvert] at hcount
  dsimp only at hcount ⊢
  have hnot : s.ldc.range = .wide → ¬ (s.ldc.mode = .auto ∧ s.ldc.range = .fine ∧ 7549746 ≤ raw.toInt.natAbs) := by
    intro hr hn
    simp [hr] at hn
  refine ⟨fun hup => ?_, fun hup hl => ?_, fun hco hd => ?_, fun hco hd => ?_, fun hup hl hco => ?_⟩
  · obtain ⟨hf, hm⟩ := hswitch.mpr hup
    rw [hconvert, upSwitch_done (l := { s.ldc with lastGood := some (clampLoad (g - s.ldc.tare)) }) .ordinary _ s.testing
      false (by simp) hf hm, switchRange_withLdc, withLdc_ldc]
    exact switched_idle (l := { s.ldc with lastGood := some (clampLoad (g - s.ldc.tare)) }) ht hs .wide
  · rw [hcount (mt hswitch.mp hup), if_pos (hlow.mpr hl)]
  · obtain ⟨hm, hr, hl⟩ := hco
    rw [hcount (mt hswitch.mp (hnot hr)), if_neg (fun hn => hlow.mp hn hl), if_pos ⟨hm, hr⟩, if_neg (by omega)]
  · obtain ⟨hm, hr, hl⟩ := hco
    rw [hcount (mt hswitch.mp (hnot hr)), if_neg (fun hn => hlow.mp hn hl), if_pos ⟨hm, hr⟩, if_pos (by omega)]
  · rw [hcount (mt hswitch.mp hup), if_neg (fun hn => hlow.mp hn hl), if_neg fun hn => hco ⟨hn.1, hn.2, hl⟩]

theorem shuntHolds_eq (l : Ldc) : l.shuntHolds =
    (match l.shunt with
     | some k => decide (k.phase ≠ .baseline)
     | none => false) := by
  unfold Ldc.shuntHolds
  cases l.shunt with
  | none => rfl
  | some k =>
    obtain ⟨phase, _, _, _⟩ := k
    cases phase <;> rfl

/-- An up-switch by an ordinary conversion, with a tare or a shunt check in progress or none (R10, R12). -/
theorem convertLoad_ordinaryUp {c g : Int} (h : s.ldc.settle = 0) (hs : s.ldc.shuntHolds = false)
    (hf : s.ldc.fineAuto = true) (hc : ¬ saturatedCode c = true) (hup : 7549746 ≤ mag c)
    (hg : grossLoad (s.ldc.table s.ldc.range) c = some g) :
    (s.convertLoad c).1 = State.switchRange .wide ((s.testedLoad (clampLoad (g - s.ldc.tare))).withLdc
      { s.ldc with lastGood := some (clampLoad (g - s.ldc.tare)) }) := by
  obtain ⟨_, _, hconvert⟩ := convertLoad_ordinary h hs hc hg
  rw [hconvert]
  exact upSwitch_done .ordinary c s.testing s.ldc.busy (by simp) hf hup

theorem testedLoad_over {net : Int} (h : s.overloadLimit < mag net) : s.testedLoad net = s.reportOverload := if_pos h

theorem testedLoad_within {net : Int} (h : mag net ≤ s.overloadLimit) : s.testedLoad net = s.noOverload :=
  if_neg (not_lt.mpr h)

theorem testedLoad_withLdc (net : Int) (l : Ldc) : (s.testedLoad net).withLdc l =
    if s.overloadLimit < mag net then
      State.trip .overload { s.withLdc l with dec := { s.dec with overloadPresent := true } }
    else { s.withLdc l with dec := { s.dec with overloadPresent := false } } := by
  unfold State.testedLoad
  rw [apply_ite (State.withLdc l), ← reportOverload_withLdc]
  rfl

/-- An OVERLOAD report in a part that keeps the chain law latches the cause with the chain OPEN (R120). -/
theorem reportOverload_dec (h : ChainLaw s) : TripCause.overload ∈ s.reportOverload.dec.trips ∧
    s.reportOverload.dec.overloadPresent = true ∧ s.reportOverload.dec.chain = .opened := by
  unfold State.reportOverload
  rw [trip_dec]
  split
  case isTrue hmem =>
    refine ⟨hmem, rfl, ?_⟩
    cases hc : s.dec.chain with
    | opened => rfl
    | closed => simp [h.trips hc] at hmem
  case isFalse => simp

/-- LDC's work after the overload test leaves DEC. -/
theorem convertLoad_dec {c g : Int} (h : s.ldc.settle = 0) (hs : s.ldc.shuntHolds = false)
    (hc : ¬ saturatedCode c = true) (hg : grossLoad (s.ldc.table s.ldc.range) c = some g) :
    (s.convertLoad c).1.dec = (s.testedLoad (clampLoad (g - s.ldc.tare))).dec := by
  obtain ⟨_, _, hconvert⟩ := convertLoad_ordinary h hs hc hg
  rw [hconvert]
  simp [State.withLdc]

/-- Settles O29: each class of a conversion by its equation. -/
theorem ordinaryConversion : Obligations.OrdinaryConversion := by
  refine ⟨fun s raw g h hs ht hc hc' hg => ?_, fun s raw => ?_, fun s raw g hlaw h hs hc hc' hg => ?_⟩
  · obtain ⟨t, hexec, _, hldc, _⟩ := exec_loadConversion s raw
    refine ⟨t, hexec, ?_⟩
    rw [hldc]
    exact ordinary_idle s raw g h hs ht (not_saturated hc hc') hg
  · intro l c shuntHeld saturated fineAuto table u having
    have hheld : s.ldc.shuntHolds = shuntHeld := shuntHolds_eq s.ldc
    have hsat : saturatedCode c = true ↔ saturated := saturatedCode_iff c
    have hfine : s.ldc.fineAuto = true ↔ fineAuto := fineAuto_iff s.ldc
    have hmag : 7549746 ≤ mag c ↔ 7549746 ≤ c.natAbs := mag_ge_iff c 7549746
    refine ⟨fun h hs => convertLoad_settling c h (hheld.trans hs), fun h hs hc ht => ?_, fun h hf hc => ?_,
      fun h hc hf => ?_, fun g h hs hf hc hup hg => ?_⟩
    · exact (convertLoad_noTable h (hheld.trans hs) (mt hsat.mp hc) ht).trans (if_congr (and_congr hfine hmag) rfl rfl)
    · exact convertLoad_heldUp h (hfine.mpr hf) (hc.imp hsat.mpr fun hn => ⟨hheld.trans hn.1, hmag.mpr hn.2⟩)
    · have hconvert := convertLoad_saturated h (by simpa using mt hfine.mp hf) (hsat.mpr hc)
      rw [Ldc.abandoned, h, hheld] at hconvert
      exact hconvert
    · refine (convertLoad_ordinaryUp h (hheld.trans hs) (hfine.mpr hf) (mt hsat.mp hc) (hmag.mpr hup) hg).trans
        (congrArg _ ?_)
      rw [testedLoad_withLdc]
      rfl
  · have hdec := convertLoad_dec h (shuntHolds_of_none hs) (not_saturated hc hc') hg
    obtain ⟨t, hexec, _, _, htdec⟩ := exec_loadConversion s raw
    refine ⟨t, hexec, fun hover => ?_, fun hwithin => ?_⟩
    · rw [htdec, hdec, testedLoad_over (s := s) (net := clampLoad (g - s.ldc.tare)) hover]
      exact reportOverload_dec hlaw
    · rw [htdec, hdec, testedLoad_within (s := s) (net := clampLoad (g - s.ldc.tare)) hwithin]
      rfl

/-! ### Tare and shunt check (R16, R20, R21) -/

/-- With work in progress an ordinary conversion that does not switch makes the down count 0 (R11). -/
theorem noSwitch_busy {c : Int} (hup : ¬ (l.fineAuto = true ∧ 7549746 ≤ mag c)) (testing : Bool) :
    State.countDown .ordinary c testing true (State.conversionSwitch .ordinary c (x.withLdc l)) =
      x.withLdc { l with down := 0 } := by
  rw [conversionSwitch_withLdc, if_neg (by simp), if_neg hup, countDown_withLdc, if_neg (by simp), if_pos (by simp)]

theorem gross_withLdc {c g : Int} (h : grossLoad (l.table l.range) c = some g) : (x.withLdc l).gross c = some g := h

/-- A tare takes a gross load, and with the 16th it ends (R16). -/
theorem advanceTare_withLdc {c g : Int} {k : TareProgress} (ht : l.tareProgress = some k)
    (hg : grossLoad (l.table l.range) c = some g) : State.advanceTare .ordinary c (x.withLdc l) =
      if k.taken = 15 then
        State.put (.tareDone true (clampLoad (roundDiv (k.sum + g) 16)))
          (x.withLdc { l with tare := clampLoad (roundDiv (k.sum + g) 16), tareProgress := none })
      else x.withLdc { l with tareProgress := some ⟨k.taken + 1, k.sum + g⟩ } := by
  unfold State.advanceTare
  rw [withLdc_ldc, ht, gross_withLdc hg]
  simp only [Nat.reduceEqDiff]
  rfl

/-- Without a shunt check an ordinary conversion advances the tare alone. -/
theorem advanceProgress_tare {c : Int} (hc : ¬ saturatedCode c = true)
    (hs : (State.advanceTare .ordinary c s).ldc.shunt = none) :
    State.advanceProgress .ordinary c s = State.advanceTare .ordinary c s := by
  unfold State.advanceProgress
  rw [if_neg fun hn => hc hn.2]
  unfold State.advanceShunt
  rw [hs]

/-- An ordinary conversion that joins a tare. -/
theorem convertLoad_tare {c g : Int} {k : TareProgress} (h : s.ldc.settle = 0) (hs : s.ldc.shunt = none)
    (ht : s.ldc.tareProgress = some k) (hc : ¬ saturatedCode c = true)
    (hup : ¬ (s.ldc.fineAuto = true ∧ 7549746 ≤ mag c)) (hg : grossLoad (s.ldc.table s.ldc.range) c = some g) :
    let net := clampLoad (g - s.ldc.tare)
    let tare := clampLoad (roundDiv (k.sum + g) 16)
    (s.convertLoad c).1 =
      if k.taken = 15 then
        State.put (.tareDone true tare) ((s.testedLoad net).withLdc
          { s.ldc with lastGood := some net, down := 0, tare := tare, tareProgress := none })
      else (s.testedLoad net).withLdc
        { s.ldc with lastGood := some net, down := 0, tareProgress := some ⟨k.taken + 1, k.sum + g⟩ } := by
  obtain ⟨_, _, hconvert⟩ := convertLoad_ordinary h (shuntHolds_of_none hs) hc hg
  have hbusy : s.ldc.busy = true := (busy_iff _).mpr (.inl (by simp [ht]))
  have hadvance := advanceTare_withLdc (x := s.testedLoad (clampLoad (g - s.ldc.tare)))
    (l := { s.ldc with lastGood := some (clampLoad (g - s.ldc.tare)), down := 0 }) ht hg
  dsimp only
  rw [hconvert, hbusy, noSwitch_busy (l := { s.ldc with lastGood := some (clampLoad (g - s.ldc.tare)) }) hup]
  rw [advanceProgress_tare hc]
  · exact hadvance
  · dsimp only at hadvance ⊢
    rw [hadvance]
    split <;> simp [hs]

/-- The conversions that a shunt check takes: ordinary ones in its baseline, shunt-held ones after it (R20). -/
theorem convertLoad_shunt {c g : Int} {k : ShuntProgress} (h : s.ldc.settle = 0) (ht : s.ldc.tareProgress = none)
    (hs : s.ldc.shunt = some k) (hc : ¬ saturatedCode c = true)
    (hup : ¬ (s.ldc.fineAuto = true ∧ 7549746 ≤ mag c)) (hg : grossLoad (s.ldc.table s.ldc.range) c = some g) :
    (k.phase = .baseline → ∃ (x : State) (good : Option Int),
      (s.convertLoad c).1 = State.advanceShunt .ordinary c (x.withLdc { s.ldc with lastGood := good, down := 0 })) ∧
    (k.phase ≠ .baseline →
      (s.convertLoad c).1 = State.advanceShunt .shuntHeld c (s.withLdc { s.ldc with down := 0 })) := by
  have hprogress : ∀ (j : LoadClass) (y : State), y.ldc.tareProgress = none →
      State.advanceProgress j c y = State.advanceShunt j c y := by
    intro j y hy
    have htare : y.advanceTare j c = y := by
      unfold State.advanceTare
      rw [hy]
      split <;> simp_all
    unfold State.advanceProgress
    rw [if_neg fun hn => hc hn.2, htare]
  refine ⟨fun hp => ?_, fun hp => ?_⟩
  · have hfalse : s.ldc.shuntHolds = false := by simp [Ldc.shuntHolds, hs, hp]
    obtain ⟨_, _, hconvert⟩ := convertLoad_ordinary h hfalse hc hg
    have hbusy : s.ldc.busy = true := (busy_iff _).mpr (.inr (by simp [hs]))
    refine ⟨s.testedLoad (clampLoad (g - s.ldc.tare)), some (clampLoad (g - s.ldc.tare)), ?_⟩
    rw [hconvert, hbusy, noSwitch_busy (l := { s.ldc with lastGood := some (clampLoad (g - s.ldc.tare)) }) hup]
    exact hprogress .ordinary _ ht
  · have htrue : s.ldc.shuntHolds = true := by simp [Ldc.shuntHolds, hs, hp]
    rw [convertLoad_eq, loadClass_shuntHeld c h htrue, testOverload_held .shuntHeld c _ (fun hn => hc hn.2) rfl,
      afterResult_held .shuntHeld s.ldc (by simp) (by simp) _ rfl,
      noSwitch_reset .shuntHeld c _ _ (by simp) (by simp) hup]
    exact hprogress .shuntHeld _ ht

/-- The progress and SHUNT_EN after a conversion that a shunt check takes, by its phase (R20, R21). -/
def ShuntProgress.next (k : ShuntProgress) (g : Int) (en : Bool) : Option ShuntProgress × Bool :=
  match k.phase with
  | .baseline =>
    if k.taken = 15 then (some ⟨.shuntSettle, 0, k.baseline + g, k.sum⟩, true)
    else (some { k with taken := k.taken + 1, baseline := k.baseline + g }, en)
  | .shuntSettle =>
    if k.taken = 7 then (some { k with phase := .shuntMeasure, taken := 0 }, en)
    else (some { k with taken := k.taken + 1 }, en)
  | .shuntMeasure =>
    if k.taken = 15 then (some { k with phase := .releaseSettle, taken := 0, sum := k.sum + g }, false)
    else (some { k with taken := k.taken + 1, sum := k.sum + g }, en)
  | .releaseSettle => if k.taken = 7 then (none, en) else (some { k with taken := k.taken + 1 }, en)

theorem advanceShunt_next {c g : Int} {k : ShuntProgress} (j : LoadClass) (hs : l.shunt = some k)
    (hg : grossLoad (l.table l.range) c = some g) (hj : k.phase = .baseline → j = .ordinary) :
    let u := State.advanceShunt j c (x.withLdc l)
    (u.ldc.shunt, u.ldc.shuntEn) = k.next g l.shuntEn := by
  dsimp only
  unfold State.advanceShunt ShuntProgress.next
  rw [withLdc_ldc, hs, gross_withLdc hg]
  dsimp only
  cases hp : k.phase with
  | baseline =>
    rw [hj hp]
    dsimp only
    simp only [Nat.reduceEqDiff]
    split <;> rfl
  | shuntSettle =>
    dsimp only
    simp only [Nat.reduceEqDiff]
    split <;> rfl
  | shuntMeasure =>
    dsimp only
    simp only [Nat.reduceEqDiff, Option.getD_some]
    split <;> rfl
  | releaseSettle =>
    dsimp only
    simp only [Nat.reduceEqDiff]
    split
    · simp [State.finishShunt]
    · rfl

/-- The last conversion of a shunt check puts SHUNT_DONE by the deviation (R21). -/
theorem advanceShunt_done {c : Int} {k : ShuntProgress} (j : LoadClass) (hs : l.shunt = some k)
    (hp : k.phase = .releaseSettle) (hk : k.taken = 7) :
    let p := l.shuntParams l.range
    let deviation := roundDiv (k.sum - k.baseline) 16 - p.expected
    State.advanceShunt j c (x.withLdc l) =
      State.put (.shuntDone (if mag deviation ≤ p.tolerance then .pass else .fail) l.range (some deviation))
        (x.withLdc { l with shunt := none }) := by
  dsimp only
  unfold State.advanceShunt
  rw [withLdc_ldc, hs]
  dsimp only
  rw [hp]
  dsimp only
  rw [hk]
  rfl

end Sys2Proof.Machine
end

section
/-! SUPPORT. What goes on through a load conversion: the events of the queue stay in front, and the last sample, the index, the
encoder counts, the frame configuration and the staged copy are left (sections 3.2, 4.2, 5.8, 7.1). -/

namespace Sys2Proof.Machine

variable {s t u : State}

/-- The events held stay, in their order, and the last sample, the index, the counts, the frame configuration and the staged
copy are kept. -/
structure Onward (s t : State) : Prop where
  entries : s.evq.entries <+: t.evq.entries
  last : t.smp.last = s.smp.last
  index : t.smp.index = s.smp.index
  count : t.xhs.count = s.xhs.count
  zeroCount : t.xhs.zeroCount = s.xhs.zeroCount
  config : t.xhs.config = s.xhs.config
  staged : t.tsq.staged = s.tsq.staged
  composed : t.smp.composed = s.smp.composed

theorem Onward.refl (s : State) : Onward s s := ⟨List.prefix_rfl, rfl, rfl, rfl, rfl, rfl, rfl, rfl⟩

theorem Onward.trans (h : Onward s t) (h' : Onward t u) : Onward s u where
  entries := h.entries.trans h'.entries
  last := h'.last.trans h.last
  index := h'.index.trans h.index
  count := h'.count.trans h.count
  zeroCount := h'.zeroCount.trans h.zeroCount
  config := h'.config.trans h.config
  staged := h'.staged.trans h.staged
  composed := h'.composed.trans h.composed

/-- An operation that leaves the event queue, the sample, the servo and the test. -/
theorem Onward.of_frame (he : t.evq = s.evq) (hs : t.smp = s.smp) (hx : t.xhs = s.xhs) (ht : t.tsq = s.tsq) : Onward s t := by
  constructor <;> simp only [he, hs, hx, ht]
  exact List.prefix_rfl

theorem entries_put (s : State) (e : Event) : s.evq.entries <+: (s.put e).evq.entries := by
  unfold State.put
  split
  · exact List.prefix_append _ _
  · exact List.prefix_rfl

theorem Onward.put (s : State) (e : Event) : Onward s (s.put e) where
  entries := entries_put s e
  last := by simp
  index := by simp
  count := by simp
  zeroCount := by simp
  config := by simp
  staged := by simp
  composed := by simp

theorem Onward.then_put (h : Onward s t) (e : Event) : Onward s (t.put e) := h.trans (.put t e)

theorem Onward.putAll (es : List Event) (s : State) : Onward s (State.putAll es s) := by
  induction es generalizing s with
  | nil => exact .refl s
  | cons e es ih => exact (Onward.put s e).trans (ih _)

/-- A change of XHS that keeps the counts and the configuration. -/
theorem Onward.xhs (s : State) (x : Xhs) (hc : x.count = s.xhs.count) (hz : x.zeroCount = s.xhs.zeroCount)
    (hf : x.config = s.xhs.config) : Onward s { s with xhs := x } :=
  ⟨List.prefix_rfl, rfl, rfl, hc, hz, hf, rfl, rfl⟩

/-- A change of TSQ that keeps the staged copy. -/
theorem Onward.tsq (s : State) (x : Tsq) (h : x.staged = s.tsq.staged) : Onward s { s with tsq := x } :=
  ⟨List.prefix_rfl, rfl, rfl, rfl, rfl, rfl, h, rfl⟩

theorem Onward.enterTest (s : State) (x : TestState) : Onward s (s.enterTest x) :=
  (Onward.tsq s { s.tsq with state := x } rfl).trans (.put _ _)

/-! ### The source and the arms -/

theorem Onward.setSource (x : StrainSource) (o : Int) (c : SourceCause) (s : State) : Onward s (s.setSource x o c) := by
  have hset : Onward s { s with smp := { s.smp with source := x, sourceOffset := o } } :=
    ⟨List.prefix_rfl, rfl, rfl, rfl, rfl, rfl, rfl, rfl⟩
  unfold State.setSource
  dsimp only
  split
  · exact hset
  · exact hset.trans (.put _ _)

theorem Onward.marks (s : State) (h f : Bool) : Onward s { s with smp := { s.smp with handoverMark := h, forcedMark := f } } :=
  ⟨List.prefix_rfl, rfl, rfl, rfl, rfl, rfl, rfl, rfl⟩

theorem Onward.followSet (c : SourceCause) (s : State) : Onward s (s.followSet c) := .setSource _ _ _ s

theorem Onward.sourceAtTestEnd (s : State) : Onward s s.sourceAtTestEnd := (Onward.followSet .testEnd s).trans (.marks _ _ _)

theorem Onward.sourceAtRelease (b : Bool × Bool) (s : State) : Onward s (s.sourceAtRelease b) := by
  have hfall : ∀ x, Onward s (if s.smp.source = .extAvg then s.fallBack x else s) := by
    intro x
    split
    exacts [.setSource _ _ _ s, .refl s]
  unfold State.sourceAtRelease
  split
  · split
    · split
      · exact (Onward.setSource _ _ _ s).trans (.marks _ _ _)
      · exact hfall _
      · exact hfall _
      · exact .refl s
    · exact .refl s
  · exact .followSet _ s

theorem Onward.changeArm (s : State) (w : Arm) (r : ArmRec) : Onward s (s.changeArm w r) := by
  unfold State.changeArm
  refine Onward.then_put ?_ _
  exact .of_frame (by simp) (by simp) (by simp) (by simp)

theorem Onward.releaseArm (b r : Bool) (w : Arm) (s : State) : Onward s (s.releaseArm b r w) := by
  unfold State.releaseArm
  split
  · unfold State.enterReleasing
    dsimp only
    split <;> exact .changeArm s w _
  · exact .refl s

theorem Onward.releaseStart (s : State) (a b r : Bool) : Onward s (s.releaseStart a b r) :=
  ((Onward.releaseArm a r .a s).trans (.releaseArm b r .b _)).trans (.sourceAtRelease _ _)

/-! ### The end of a test and the chain -/

theorem Onward.applyPending (s : State) (w : AppliedAt) : Onward s (s.applyPending w) := by
  unfold State.applyPending
  split
  · exact .refl s
  · refine Onward.then_put ?_ _
    exact .tsq s _ rfl

theorem Onward.settlePending (s : State) (r : EndReason) : Onward s (s.settlePending r) := by
  unfold State.settlePending
  split
  · exact .tsq s _ rfl
  all_goals exact .applyPending s _

theorem Onward.resEnd (s : State) (r : EndReason) : Onward s (s.resEnd r) := by
  unfold State.resEnd
  dsimp only
  refine Onward.then_put ?_ _
  exact .of_frame rfl rfl rfl rfl

theorem Onward.enterEnded (s : State) (r : EndReason) : Onward s (s.enterEnded r) :=
  ((((Onward.tsq s { s.tsq with state := .ended r } rfl).trans (.settlePending _ r)).trans (.put _ _)).trans
    (.sourceAtTestEnd _)).trans (.resEnd _ r)

theorem Onward.servoDisable (s : State) : Onward s s.servoDisable := by
  have hdisabled : Onward s { s with xhs := s.xhs.disabled } := .xhs s _ rfl rfl rfl
  rw [servoDisable_eq]
  split
  · exact hdisabled.trans (.put _ _)
  · split
    · exact hdisabled.trans (.put _ _)
    · exact hdisabled

theorem Onward.openChain (s : State) (c : OpenCause) : Onward s (s.openChain c) := by
  have hend : ∀ v : State, Onward v (v.testChainOpened c) := by
    intro v
    unfold State.testChainOpened
    split
    · exact .enterEnded v _
    · exact .enterEnded v _
    · exact .enterEnded v _
    · exact .refl v
  have hopened : Onward s { s with dec := { s.dec with chain := .opened, guardMode := false } } := .of_frame rfl rfl rfl rfl
  exact ((hopened.trans (.put _ _)).trans (.servoDisable _)).trans (hend _)

theorem Onward.trip (s : State) (c : TripCause) : Onward s (s.trip c) := by
  unfold State.trip
  dsimp only
  split
  · exact .refl s
  · split
    · refine Onward.trans (Onward.then_put ?_ _) (.openChain _ _)
      exact .of_frame rfl rfl rfl rfl
    · refine Onward.then_put ?_ _
      exact .of_frame rfl rfl rfl rfl

theorem Onward.reportOverload (s : State) : Onward s s.reportOverload := by
  unfold State.reportOverload
  refine Onward.trans ?_ (.trip _ _)
  exact .of_frame rfl rfl rfl rfl

/-! ### LDC's work -/

theorem Onward.testOverload (s : State) (k : LoadClass) (c : Int) (r : LoadResult) : Onward s (s.testOverload k c r) := by
  unfold State.testOverload
  split
  · split
    · exact .refl s
    · exact .reportOverload s
  · split
    · split
      · exact .reportOverload s
      · exact .of_frame rfl rfl rfl rfl
    · exact .refl s

/-- The items of LDC that no conversion changes: the two tables and the range mode. -/
def Ldc.setup (l : Ldc) : List CalPoint × List CalPoint × RangeMode := (l.fineTable, l.wideTable, l.mode)

/-- A change of LDC, but for the tables and the mode, and the events it puts. -/
structure LdcWork (s t : State) : Prop where
  frame : t = { s with ldc := t.ldc, evq := t.evq }
  entries : s.evq.entries <+: t.evq.entries
  setup : t.ldc.setup = s.ldc.setup

theorem LdcWork.refl (s : State) : LdcWork s s := ⟨rfl, List.prefix_rfl, rfl⟩

theorem LdcWork.trans (h : LdcWork s t) (h' : LdcWork t u) : LdcWork s u := by
  refine ⟨?_, h.entries.trans h'.entries, h'.setup.trans h.setup⟩
  have hu := h'.frame
  rw [h.frame] at hu
  exact hu

theorem LdcWork.withLdc (s : State) (l : Ldc) (h : l.setup = s.ldc.setup) : LdcWork s (s.withLdc l) :=
  ⟨rfl, List.prefix_rfl, h⟩

theorem LdcWork.put (s : State) (e : Event) : LdcWork s (s.put e) := by
  refine ⟨?_, entries_put s e, by simp⟩
  unfold State.put
  split <;> rfl

theorem LdcWork.putAll (es : List Event) (s : State) : LdcWork s (State.putAll es s) := by
  induction es generalizing s with
  | nil => exact .refl s
  | cons e es ih => exact (LdcWork.put s e).trans (ih _)

theorem LdcWork.onward (h : LdcWork s t) : Onward s t := by
  obtain ⟨hframe, hentries, _⟩ := h
  have hsame : t.smp = s.smp ∧ t.xhs = s.xhs ∧ t.tsq = s.tsq := by rw [hframe]; exact ⟨rfl, rfl, rfl⟩
  obtain ⟨hs, hx, ht⟩ := hsame
  exact ⟨hentries, by rw [hs], by rw [hs], by rw [hx], by rw [hx], by rw [hx], by rw [ht], by rw [hs]⟩

theorem LdcWork.switchRange (s : State) (r : LoadRange) : LdcWork s (s.switchRange r) := by
  have hswitch := switchRange_withLdc s.ldc r s
  rw [withLdc_self] at hswitch
  rw [hswitch]
  exact (LdcWork.putAll _ s).trans (.withLdc _ _ (by simp [Ldc.setup, Ldc.switched, Ldc.abandoned]))

theorem LdcWork.conversionSwitch (s : State) (k : LoadClass) (c : Int) : LdcWork s (s.conversionSwitch k c) := by
  unfold State.conversionSwitch
  split
  · split
    · exact .switchRange s _
    · exact .refl s
  · split
    · exact .switchRange s _
    · exact .refl s

theorem LdcWork.countDown (s : State) (k : LoadClass) (c : Int) (b b' : Bool) : LdcWork s (s.countDown k c b b') := by
  unfold State.countDown
  split
  · exact .refl s
  · split
    · exact .withLdc s _ rfl
    · split
      · split
        · exact .switchRange s _
        · exact .withLdc s _ rfl
      · exact .refl s

theorem LdcWork.then_put (h : LdcWork s t) (e : Event) : LdcWork s (t.put e) := h.trans (.put t e)

theorem LdcWork.advanceTare (s : State) (k : LoadClass) (c : Int) : LdcWork s (s.advanceTare k c) := by
  unfold State.advanceTare
  split
  · split
    · refine LdcWork.then_put ?_ _
      exact .withLdc s _ rfl
    · exact .withLdc s _ rfl
  · exact .refl s

theorem LdcWork.advanceShunt (s : State) (k : LoadClass) (c : Int) : LdcWork s (s.advanceShunt k c) := by
  unfold State.advanceShunt
  split
  · exact .refl s
  · split
    · split
      · split <;> exact .withLdc s _ rfl
      · exact .refl s
    · split <;> exact .withLdc s _ rfl
    · dsimp only
      split <;> exact .withLdc s _ rfl
    · split
      · refine LdcWork.then_put ?_ _
        exact .withLdc s _ rfl
      · exact .withLdc s _ rfl

theorem LdcWork.advanceProgress (s : State) (k : LoadClass) (c : Int) : LdcWork s (s.advanceProgress k c) := by
  unfold State.advanceProgress
  split
  · have habandon := abandon_withLdc s.ldc s.ldc.range s
    rw [withLdc_self] at habandon
    rw [habandon]
    exact (LdcWork.putAll _ s).trans (.withLdc _ _ (by simp [Ldc.setup, Ldc.abandoned]))
  · exact (LdcWork.advanceTare s k c).trans (.advanceShunt _ k c)

/-- After the overload test LDC's work changes LDC and the event queue alone (R2). -/
theorem convertLoad_work (c : Int) (s : State) :
    LdcWork (s.testOverload (s.loadClass c) c (s.loadResult (s.loadClass c) c)) (s.convertLoad c).1 := by
  rw [convertLoad_eq]
  exact (((LdcWork.withLdc _ _ (by simp [Ldc.setup, Ldc.afterResult])).trans (.conversionSwitch _ _ c)).trans (.countDown _ _ c _ _)).trans (.advanceProgress _ _ c)

theorem Onward.convertLoad (s : State) (c : Int) : Onward s (s.convertLoad c).1 :=
  (Onward.testOverload s _ c _).trans (convertLoad_work c s).onward

/-! ### The delivery of a sample -/

theorem Onward.resTake (s : State) (m : Sample) : Onward s (s.resTake m) := by
  unfold State.resTake
  split
  · refine Onward.trans ?_ (.putAll _ _)
    exact .of_frame rfl rfl rfl rfl
  · exact .refl s

theorem Onward.resBreak (s : State) (f : Option Word) : Onward s (s.resBreak f) :=
  .of_frame (by simp) (by simp) (by simp) (by simp)

theorem Onward.breakRelease (s : State) : Onward s s.breakRelease := by
  unfold State.breakRelease
  split
  · exact .releaseStart s _ _ _
  · exact .refl s

theorem Onward.afterBreak (s : State) : Onward s s.afterBreak := by
  unfold State.afterBreak
  split
  · split
    · refine (Onward.enterTest s .returning).trans ?_
      exact .xhs _ _ rfl rfl rfl
    · exact .enterEnded s _
  · exact .enterEnded s _

theorem Onward.servoStop (s : State) : Onward s s.servoStop := .xhs s _ rfl rfl rfl

theorem Onward.breakDetected (s : State) : Onward s s.breakDetected := by
  unfold State.breakDetected
  dsimp only
  refine Onward.trans (Onward.then_put (Onward.trans (Onward.trans (Onward.trans ?_ (.servoStop _)) (.breakRelease _))
    (.resBreak _ _)) _) (.afterBreak _)
  exact .tsq s _ rfl

theorem beginStep_kept (x : Xhs) (n : Nat) (p : ProfileStep) :
    (x.beginStep n p).count = x.count ∧ (x.beginStep n p).zeroCount = x.zeroCount ∧ (x.beginStep n p).config = x.config := by
  unfold Xhs.beginStep Xhs.beginRunning Xhs.beginBumpless
  dsimp only
  split <;> split <;> exact ⟨rfl, rfl, rfl⟩

theorem Onward.servoBegin (p : ProfileStep) (s : State) : Onward s (s.servoBegin p) := by
  obtain ⟨hc, hz, hf⟩ := beginStep_kept s.xhs s.smp.composed p
  exact .xhs s _ hc hz hf

theorem Onward.stepBoundary (s : State) : Onward s s.stepBoundary := by
  have hrelease : Onward s s.stepRelease := by
    unfold State.stepRelease
    split
    · split
      · exact .releaseStart s _ _ _
      · exact .refl s
    · exact .refl s
  have hnext : ∀ v : State, Onward v v.nextStep := by
    intro v
    unfold State.nextStep
    dsimp only
    split
    case h_1 p _ =>
      refine Onward.then_put (Onward.trans ?_ (.servoBegin p _)) _
      exact .tsq v _ rfl
    case h_2 => exact (Onward.servoStop v).trans (.enterEnded _ _)
  exact (hrelease.trans (.applyPending _ _)).trans (hnext _)

theorem Onward.notePrevious (s : State) (m : Sample) : Onward s (s.notePrevious m) := by
  unfold State.notePrevious
  split
  · exact .tsq s _ rfl
  · exact .refl s

theorem Onward.testTake (s : State) (m : Sample) (found : Bool) : Onward s (s.testTake m found) := by
  unfold State.testTake
  split
  · exact .refl s
  · have hcount : Onward s s.countStep := .tsq s _ rfl
    unfold State.runningTake
    dsimp only
    split
    · exact hcount.trans (.breakDetected _)
    · have hnote := hcount.trans (.notePrevious _ m)
      split
      · exact hnote.trans (.stepBoundary _)
      · exact hnote
  · unfold State.holdingTake
    split
    · exact .breakDetected s
    · exact .notePrevious s m
  · exact .refl s
  · exact .refl s

theorem Onward.traceTake (s : State) (m : Sample) : Onward s (s.traceTake m) := by
  have hdouble : ∀ v : State, Onward v v.doubleFactor := by
    intro v
    unfold State.doubleFactor
    split
    · refine Onward.then_put ?_ _
      exact .of_frame rfl rfl rfl rfl
    · exact .refl v
  have hstore : ∀ v : State, Onward v (v.storeRecord m) := by
    intro v
    unfold State.storeRecord
    split
    · refine Onward.trans ?_ (hdouble _)
      exact .of_frame rfl rfl rfl rfl
    · exact .of_frame rfl rfl rfl rfl
  unfold State.traceTake
  split
  · refine Onward.trans ?_ (hstore _)
    exact .of_frame (by simp) (by simp) (by simp) (by simp)
  · exact .refl s

/-- The delivery of a sample in its parts (R49). -/
theorem deliver_eq (m : Sample) (s : State) : s.deliver m =
    State.traceTake m (if s.tsq.state.sampling then
      State.testTake m (foundBetween s.res.items.firstYield (s.resTake m).res.items.firstYield) (s.resTake m) else s) := by
  unfold State.deliver
  dsimp only
  split <;> rfl

theorem Onward.deliver (s : State) (m : Sample) : Onward s (s.deliver m) := by
  rw [deliver_eq]
  refine Onward.trans ?_ (.traceTake _ m)
  split
  · exact (Onward.resTake s m).trans (.testTake _ m _)
  · exact .refl s

end Sys2Proof.Machine
end

section
/-! SUPPORT. Tare and shunt check by their conversions (O30), and the sample that a load conversion makes (O28). -/

namespace Sys2Proof.Machine

variable {s : State}

/-! ### O30 -/

/-- The composition and delivery of a sample keep the entries of the queue in front (R49, R101). -/
theorem entries_sampleLoad (s : State) (r : LoadResult) : s.evq.entries <+: (s.sampleLoad r).evq.entries :=
  (Onward.deliver (s.storeSample (s.composeSample r (s.composeBasis r.load)) (s.composeBasis r.load)) _).entries

/-- The entries that LDC leaves at a load conversion are in the queue after it. -/
theorem entry_of_convertLoad {e : Entry} (c : Int) (h : e ∈ (s.convertLoad c).1.evq.entries) :
    e ∈ (s.loadConversion c).kick.evq.entries := by
  simp only [kick_frame]
  exact (entries_sampleLoad _ _).subset h

/-- The entry of an event put in a queue with room. -/
theorem entry_put (s : State) (e : Event) (h : s.evq.entries.length < 32) :
    (⟨e, s.dio.partTime⟩ : Entry) ∈ (s.put e).evq.entries := by
  rw [put_of_room e h]
  simp

/-- Settles O30: a tare by `convertLoad_tare`, a shunt check by the phase of its progress. -/
theorem tareAndShuntConversions : Obligations.TareAndShuntConversions := by
  refine ⟨fun s raw g k h hs ht hc hc' hup hg => ?_, fun s raw g k h ht hs hc hc' hup hg => ?_⟩
  · have hswitch : ¬ (s.ldc.fineAuto = true ∧ 7549746 ≤ mag raw.toInt) := by
      rw [fineAuto_iff, and_assoc]
      exact fun hn => hup ⟨hn.1, hn.2.1, (mag_ge_iff _ 7549746).mp hn.2.2⟩
    have hconvert := convertLoad_tare h hs ht (not_saturated hc hc') hswitch hg
    obtain ⟨t, hexec, _, hldc, _⟩ := exec_loadConversion s raw
    exact ⟨fun hk => hconvert.trans (if_neg hk), fun hk => hconvert.trans (if_pos hk), t, hexec, hldc⟩
  · have hswitch : ¬ (s.ldc.fineAuto = true ∧ 7549746 ≤ mag raw.toInt) := by
      rw [fineAuto_iff, and_assoc]
      exact fun hn => hup ⟨hn.1, hn.2.1, (mag_ge_iff _ 7549746).mp hn.2.2⟩
    obtain ⟨hbase, hafter⟩ := convertLoad_shunt h ht hs (not_saturated hc hc') hswitch hg
    obtain ⟨t, hexec, hkick, hldc, _⟩ := exec_loadConversion s raw
    refine ⟨t, hexec, ?_, ?_⟩
    · rw [hldc]
      refine Eq.trans (b := k.next g s.ldc.shuntEn) ?_ rfl
      by_cases hp : k.phase = .baseline
      · obtain ⟨x, good, hconvert⟩ := hbase hp
        rw [hconvert]
        exact advanceShunt_next (l := { s.ldc with lastGood := good, down := 0 }) .ordinary hs hg fun _ => rfl
      · rw [hafter hp]
        exact advanceShunt_next (l := { s.ldc with down := 0 }) .shuntHeld hs hg fun hn => absurd hn hp
    · intro hp hk p deviation hroom
      rw [hkick]
      refine entry_of_convertLoad _ ?_
      rw [hafter (by simp [hp]), advanceShunt_done (l := { s.ldc with down := 0 }) .shuntHeld hs hp hk]
      exact entry_put _ _ hroom

/-! ### O28 -/

/-- The overload test by its three outcomes: a report, a load within the limit, and no test (R8, R23, R120). -/
theorem testOverload_outcome (c : Int) (r : LoadResult) (s : State) :
    let tested : Prop := (0 < s.ldc.settle ∨ ¬ saturatedCode c = true) ∧ r.held = false
    let within : Prop := tested ∧ ∃ x, r.load = some x ∧ mag x ≤ s.overloadLimit
    let report : Prop := (s.ldc.settle = 0 ∧ saturatedCode c = true ∧ ¬ s.ldc.fineAuto = true) ∨
      (tested ∧ ∃ x, r.load = some x ∧ s.overloadLimit < mag x)
    (report → s.testOverload (s.loadClass c) c r = s.reportOverload) ∧
    (within → s.testOverload (s.loadClass c) c r = s.noOverload) ∧
    (¬ report → ¬ within → s.testOverload (s.loadClass c) c r = s) := by
  intro tested within report
  have hclass : s.loadClass c ≠ .settling ↔ s.ldc.settle = 0 := by
    unfold State.loadClass
    split
    · simp
      omega
    · (repeat' split) <;> simp <;> omega
  have hfirst : (s.loadClass c ≠ .settling ∧ saturatedCode c = true) ↔ ¬ (0 < s.ldc.settle ∨ ¬ saturatedCode c = true) := by
    rw [hclass, not_or, not_not, Nat.not_lt, Nat.le_zero]
  unfold State.testOverload
  rw [if_congr hfirst rfl rfl]
  obtain ⟨load, held, clamped⟩ := r
  by_cases ht : 0 < s.ldc.settle ∨ ¬ saturatedCode c = true
  · rw [if_neg (not_not.mpr ht)]
    have htested : tested ↔ held = false := and_iff_right ht
    have hreport : report ↔ held = false ∧ ∃ x, load = some x ∧ s.overloadLimit < mag x :=
      (or_iff_right fun hn => ht.elim (fun h => by omega) fun h => h hn.2.1).trans (and_congr_left' htested)
    have hwithin : within ↔ held = false ∧ ∃ x, load = some x ∧ mag x ≤ s.overloadLimit := and_congr_left' htested
    rw [hreport, hwithin]
    cases held with
    | true => simp
    | false =>
      cases load with
      | none => simp
      | some x =>
        by_cases hx : s.overloadLimit < mag x
        · simp [hx]
        · simp [hx, not_lt.mp hx]
  · obtain ⟨h0, hsat⟩ : s.ldc.settle = 0 ∧ saturatedCode c = true := by
      rw [← hclass]
      exact hfirst.mpr ht
    have hwithin : ¬ within := fun h => ht h.1.1
    have hreport : report ↔ ¬ s.ldc.fineAuto = true :=
      ⟨fun h => h.elim (fun h => h.2.2) fun h => absurd h.1.1 ht, fun h => .inl ⟨h0, hsat, h⟩⟩
    rw [if_pos ht, hreport]
    by_cases hf : s.ldc.fineAuto = true
    · rw [if_pos hf]
      exact ⟨fun h => absurd hf h, fun h => absurd h hwithin, fun _ _ => rfl⟩
    · rw [if_neg hf]
      exact ⟨fun _ => rfl, fun h => absurd h hwithin, fun h => absurd hf h⟩

/-- The result of a conversion that is settling or shunt-held, or saturated in FINE under AUTO, is held (R6, R8, R20). -/
theorem loadResult_held {c : Int} (h : 0 < s.ldc.settle ∨ s.ldc.shuntHolds = true ∨
    (saturatedCode c = true ∧ s.ldc.fineAuto = true)) : s.loadResult (s.loadClass c) c = s.ldc.heldResult := by
  by_cases h0 : 0 < s.ldc.settle
  · rw [loadClass_settling c h0, State.loadResult]
  · by_cases hs : s.ldc.shuntHolds = true
    · rw [loadClass_shuntHeld c (by omega) hs, State.loadResult]
    · obtain ⟨hsat, hf⟩ := (h.resolve_left h0).resolve_left hs
      rw [loadClass_saturated (by omega) (by simpa using hs) hsat, State.loadResult, State.saturatedResult, if_pos hf]

/-- The result of a saturated code that is not held, by the validity of the range (R8). -/
theorem loadResult_saturated {c : Int} (h : s.ldc.settle = 0) (hs : ¬ s.ldc.shuntHolds = true) (hc : saturatedCode c = true)
    (hf : ¬ s.ldc.fineAuto = true) : s.loadResult (s.loadClass c) c =
      if s.ldc.table s.ldc.range ≠ [] then ⟨some (if 0 < c then 8000000 else -8000000), false, true⟩
      else ⟨none, false, false⟩ := by
  rw [loadClass_saturated h (by simpa using hs) hc, State.loadResult, State.saturatedResult, if_neg hf]
  exact if_congr (rangeValid_iff s) rfl rfl

/-- The result of a conversion without a table that is not held (R7, R8). -/
theorem loadResult_noTable {c : Int} (h : s.ldc.settle = 0) (hs : ¬ s.ldc.shuntHolds = true)
    (hc : ¬ (saturatedCode c = true ∧ s.ldc.fineAuto = true)) (ht : s.ldc.table s.ldc.range = []) :
    s.loadResult (s.loadClass c) c = ⟨none, false, false⟩ := by
  by_cases hsat : saturatedCode c = true
  · rw [loadResult_saturated h hs hsat (fun hf => hc ⟨hsat, hf⟩), if_neg (not_not.mpr ht)]
  · rw [loadClass_noTable h (by simpa using hs) hsat ht, State.loadResult]

theorem clampTo_ne_iff (lo hi x : Int) : clampTo lo hi x ≠ x ↔ x < lo ∨ hi < x := by
  unfold clampTo
  split_ifs <;> omega

/-- A sample that RES has passed, with the first yield figure found on it or not, in TSQ (R49, R181). -/
theorem foundBetween_eq (before after : Option Word) :
    foundBetween before after = decide (before = none ∧ after ≠ none) := by
  cases before <;> cases after <;> rfl

/-- The corrected displacement of a sample, with or without a load (R54). -/
theorem correctedDisplacement_eq (load : Option Int) (s : State) : s.correctedDisplacement load =
    s.position - (match load with
      | some x => roundDiv (x * s.xhs.config.compliance) 1000000
      | none => 0) := by
  cases load with
  | some x => rfl
  | none => exact (Int.sub_zero _).symm

/-- The position is that of the encoder count and its zero (R68). -/
theorem Onward.position {s t : State} (h : Onward s t) : t.position = s.position := by
  simp only [State.position, Xhs.position, h.count, h.zeroCount]

/-- A transmitter that begins a frame leaves both slots (R213). -/
theorem kick_slots (s : State) :
    s.kick.lnk.replySlot = s.lnk.replySlot ∧ s.kick.lnk.receiveSlot = s.lnk.receiveSlot := by
  unfold State.kick State.chooseFrame
  split
  · split <;> exact ⟨rfl, rfl⟩
  · exact ⟨rfl, rfl⟩

/-- Settles O28: the sample composed on what LDC leaves, by the parts of `convertLoad_work`, `testOverload_outcome` and
`deliver_eq`. -/
theorem loadConversionSample : Obligations.LoadConversionSample := by
  intro s raw
  let u := (s.convertLoad raw.toInt).1
  let r := s.loadResult (s.loadClass raw.toInt) raw.toInt
  let l : LastSample := ⟨u.composeSample r (u.composeBasis r.load), u.composeBasis r.load⟩
  have honward : Onward s u := .convertLoad s raw.toInt
  have hdeliver : Onward (u.storeSample l.sample l.basis) (s.loadConversion raw.toInt) :=
    .deliver (u.storeSample l.sample l.basis) l.sample
  have hwork : LdcWork (s.testOverload (s.loadClass raw.toInt) raw.toInt r) u := convertLoad_work raw.toInt s
  have hsetup : (s.loadConversion raw.toInt).kick.ldc.setup = s.ldc.setup := by
    have hu : (s.loadConversion raw.toInt).kick.ldc = u.ldc := by simp [State.loadConversion, u]
    rw [hu, hwork.setup]
    simp
  simp only [Ldc.setup, Prod.mk.injEq] at hsetup
  obtain ⟨hfine, hwide, hmode⟩ := hsetup
  obtain ⟨reply, receive⟩ : (s.loadConversion raw.toInt).kick.lnk.replySlot = s.lnk.replySlot ∧
      (s.loadConversion raw.toInt).kick.lnk.receiveSlot = s.lnk.receiveSlot := by
    simpa using kick_slots (s.loadConversion raw.toInt)
  refine ⟨(s.loadConversion raw.toInt).kick, l, rfl, ?_, honward.index, ?_, honward.position, by simp, hfine, hwide, hmode,
    ?_, ?_, ?_, ?_, reply, receive, by simp, ?_⟩
  · simp only [kick_frame]
    exact hdeliver.last
  · simp only [kick_frame]
    exact hdeliver.index.trans (congrArg (· + 1) honward.index)
  · simp only [kick_frame]
    exact hdeliver.count.trans honward.count
  · simp only [kick_frame]
    exact hdeliver.zeroCount.trans honward.zeroCount
  · simp only [kick_frame]
    exact hdeliver.config.trans honward.config
  · simp only [kick_frame]
    exact hdeliver.staged.trans honward.staged
  intro shuntHeld saturated fineAuto table limit tested within report u' stored taken
  have hsat : saturatedCode raw.toInt = true ↔ saturated := saturatedCode_iff raw.toInt
  have hauto : s.ldc.fineAuto = true ↔ fineAuto := fineAuto_iff s.ldc
  have hheld : s.ldc.shuntHolds = true ↔ shuntHeld := by
    rw [shuntHolds_eq]
    cases hs : s.ldc.shunt <;> simp [shuntHeld, hs]
  obtain ⟨hreport, hwithin, hneither⟩ := testOverload_outcome raw.toInt r s
  rw [hsat, hauto] at hreport hneither
  rw [hsat] at hwithin
  have hframe := hwork.frame
  refine ⟨?_, fun h => ?_, fun h => ?_, fun h h' => ?_, rfl, rfl, ?_, rfl, rfl, rfl, rfl, rfl, rfl, rfl, fun h => ?_,
    fun h hs hc hf ht => ?_, fun h hs hc ht => ?_, fun g h hs hc hg => ?_⟩
  · have hdelivered : s.loadConversion raw.toInt = stored.deliver l.sample := rfl
    rw [hdelivered, deliver_eq]
    simp only [foundBetween_eq]
    rfl
  · rw [hreport h] at hframe
    exact hframe
  · rw [hwithin h] at hframe
    exact hframe
  · rw [hneither h h'] at hframe
    exact hframe
  · refine (correctedDisplacement_eq r.load u).trans ?_
    rw [honward.position, honward.config]
    rfl
  · have hresult : r = s.ldc.heldResult := loadResult_held (by rwa [hsat, hauto, hheld])
    exact ⟨congrArg LoadResult.load hresult, congrArg LoadResult.held hresult, congrArg LoadResult.clamped hresult⟩
  · have hresult : r = _ := (loadResult_saturated h (mt hheld.mp hs) (hsat.mpr hc) (mt hauto.mp hf)).trans (if_pos ht)
    exact ⟨congrArg LoadResult.load hresult, congrArg LoadResult.held hresult, congrArg LoadResult.clamped hresult⟩
  · have hresult : r = _ := loadResult_noTable h (mt hheld.mp hs) (by rwa [hsat, hauto]) ht
    exact ⟨congrArg LoadResult.load hresult, congrArg LoadResult.held hresult, congrArg LoadResult.clamped hresult⟩
  · obtain ⟨hclass, hordinary, _⟩ := convertLoad_ordinary h (by simpa using mt hheld.mp hs) (mt hsat.mp hc) hg
    have hresult : r = s.ldc.netResult g := (congrArg (s.loadResult · raw.toInt) hclass).trans hordinary
    refine ⟨congrArg LoadResult.load hresult, congrArg LoadResult.held hresult, ?_⟩
    rw [show l.sample.clamped = _ from congrArg LoadResult.clamped hresult]
    exact decide_eq_true_iff.trans (clampTo_ne_iff _ _ _)

end Sys2Proof.Machine
end

section
/-! SUPPORT. The crosshead servo: the position, the requests, the monitor test and the expiry (chapter Crosshead Servo). -/

namespace Sys2Proof.Machine

variable {s t : State}

/-! ### The encoder and the position (R66 to R69) -/

theorem position_eq (x : Xhs) : x.position = (BitVec.ofInt 32 ((x.count - x.zeroCount).toInt * 5)).toInt := by
  rw [BitVec.ofInt_mul, BitVec.ofInt_toInt]
  rfl

theorem encoderSample_eq (chanA chanB : Bool) (s : State) :
    let sampled := { s with xhs := { s.xhs with chanA := chanA, chanB := chanB } }
    s.encoderSample chanA chanB =
      if chanA = s.xhs.chanA then
        if chanB = s.xhs.chanB then sampled
        else { sampled with xhs := { sampled.xhs with
          count := if stepsUp s.xhs.chanA chanB then s.xhs.count + 1 else s.xhs.count - 1 } }
      else if chanB = s.xhs.chanB then { sampled with xhs := { sampled.xhs with
          count := if stepsUp s.xhs.chanA chanB then s.xhs.count + 1 else s.xhs.count - 1 } }
      else sampled.trip .encoder := by
  unfold State.encoderSample
  dsimp only
  by_cases ha : chanA = s.xhs.chanA
  · by_cases hb : chanB = s.xhs.chanB <;> simp [ha, hb]
  · by_cases hb : chanB = s.xhs.chanB
    · simp [ha, hb]
    · rw [if_neg ha, if_neg hb, bne_iff_ne.mpr ha, bne_iff_ne.mpr hb]

theorem stepsUp_iff (a b : Bool) : stepsUp a b = true ↔ decide (a ≠ b) = Config.upPhase := by
  unfold stepsUp
  cases a <;> cases b <;> simp

/-- Settles O40: a sample of the channels by which of them changed, and the checks of POSITION_ZERO. -/
theorem encoderAndPosition : Obligations.EncoderAndPosition := by
  refine ⟨fun s chanA chanB up => ?_, fun s tag hf => ?_⟩
  · intro sampled differs
    refine ⟨fun ha hb => ?_, fun hone => ?_, fun ha hb => ?_, position_eq s.xhs⟩
    · refine congrArg Host.Outcome.next ((encoderSample_eq chanA chanB s).trans ?_)
      subst ha hb
      simp
    · refine congrArg Host.Outcome.next ((encoderSample_eq chanA chanB s).trans ?_)
      simp only [stepsUp_iff]
      by_cases ha : chanA = s.xhs.chanA
      · rw [if_pos ha, if_neg (hone.mp ha)]
      · rw [if_neg ha, if_pos (not_not.mp (mt hone.mpr ha))]
    · refine congrArg Host.Outcome.next ((encoderSample_eq chanA chanB s).trans ?_)
      rw [if_neg ha, if_neg hb]
  · intro zeroed
    refine ⟨fun ht => ?_, fun ht hm => ?_, fun ht hj hm => ⟨?_, ?_⟩⟩
    · exact exec_refused hf .positionZero tag rfl (if_pos ht)
    · exact exec_refused hf .positionZero tag rfl ((if_neg (by simp [ht])).trans (if_pos hm))
    · exact exec_acked hf .positionZero tag rfl ((if_neg (by simp [ht])).trans (if_neg (by simp [hj, hm])))
    · simp [zeroed, State.position, Xhs.position]

/-! ### MONITOR_TEST and its expiries (R90) -/

/-- The part after an expiry in DISABLED, with the progress of a monitor test. -/
def State.resting (m : Option MonitorTest) (s : State) : State :=
  { s with xhs := { s.xhs with
      monitor := m, velocity := 0, speedWord := 0, modelVelocity := 0, modelAcc := s.position * 12000, trackCount := 0 } }

theorem tdiv_positionScale (p : Int) : truncDiv (p * positionScale) positionScale = p :=
  Int.mul_tdiv_cancel p (by decide)

theorem servoExpiry_disabled (h : s.xhs.mode = .disabled) : s.servoExpiry = (s.resting s.xhs.monitor).monitorExpiry := if_pos h

/-- One comparison of a monitor test with the model at the present position (R90). -/
def MonitorTest.compared (k : MonitorTest) (tolerance position : Int) : MonitorTest :=
  let shifted := if k.taken < 8 then position + (tolerance + 1) else position - (tolerance + 1)
  let before := if k.taken = 8 then 0 else k.count
  let count := if tolerance < ((shifted - position).natAbs : Int) then before + 1 else 0
  let reached := (k.reached && decide (k.taken ≠ 8)) || decide (3 ≤ count)
  ⟨k.taken + 1, count, reached, if k.taken = 7 then some reached else k.firstHalf⟩

theorem compareMonitor_resting (m : Option MonitorTest) (k : MonitorTest) :
    (s.resting m).xhs.compareMonitor k = k.compared s.xhs.config.trackTolerance s.position := by
  have hmodel : (s.resting m).xhs.modelPosition = s.position := tdiv_positionScale s.position
  have hposition : (s.resting m).xhs.position = s.position := rfl
  unfold Xhs.compareMonitor Xhs.shiftedModel MonitorTest.compared
  rw [hmodel, hposition]
  by_cases h8 : k.taken = 8 <;> simp [h8, absDiff, State.resting]

/-- One expiry of a monitor test in progress (R90). -/
theorem servoExpiry_monitor {k : MonitorTest} (h : s.xhs.mode = .disabled) (hm : s.xhs.monitor = some k) :
    let c := k.compared s.xhs.config.trackTolerance s.position
    s.servoExpiry = if k.taken = 15 then State.endMonitor (c.reached && c.firstHalf.getD false) (s.resting (some k))
      else s.resting (some c) := by
  dsimp only
  rw [servoExpiry_disabled h, State.monitorExpiry]
  have hresting : (s.resting s.xhs.monitor).xhs.monitor = some k := hm
  rw [hresting]
  dsimp only
  rw [compareMonitor_resting, hm]
  simp only [MonitorTest.compared, Nat.reduceEqDiff]
  rfl

/-- The progress of a test of a monitor that detects every shift, after some expiries (R90). -/
def provingTest (n : Nat) : MonitorTest :=
  { taken := n, count := if n ≤ 8 then n else n - 8, reached := decide (3 ≤ if n ≤ 8 then n else n - 8),
    firstHalf := if 8 ≤ n then some true else none }

theorem provingTest_compared {tolerance : Int} (position : Int) (_ : 0 ≤ tolerance) (n : Nat) (hn : n ≤ 15) :
    (provingTest n).compared tolerance position = provingTest (n + 1) := by
  have hshift : ∀ shifted : Int, shifted = position + (tolerance + 1) ∨ shifted = position - (tolerance + 1) →
      tolerance < ((shifted - position).natAbs : Int) := by
    rintro shifted (rfl | rfl) <;> omega
  have hfar : tolerance < (((if (provingTest n).taken < 8 then position + (tolerance + 1) else position - (tolerance + 1)) - position).natAbs : Int) := by
    apply hshift
    split
    exacts [.inl rfl, .inr rfl]
  unfold MonitorTest.compared
  dsimp only
  rw [if_pos hfar]
  interval_cases n <;> rfl

/-- One expiry of a test of a monitor that detects every shift (R90). -/
theorem servoExpiry_proving {n : Nat} (hn : n ≤ 15) (h : s.xhs.mode = .disabled) (hm : s.xhs.monitor = some (provingTest n))
    (ht : 0 ≤ s.xhs.config.trackTolerance) : s.servoExpiry =
      if n = 15 then State.endMonitor true (s.resting (some (provingTest n)))
      else s.resting (some (provingTest (n + 1))) := by
  have hexpiry := servoExpiry_monitor h hm
  rw [provingTest_compared s.position ht n hn] at hexpiry
  refine hexpiry.trans ?_
  by_cases h15 : n = 15
  · subst h15
    rfl
  · exact (if_neg h15).trans (if_neg h15).symm

theorem run_servoExpiry (n : Nat) (q : List Instr) (s : State) :
    Host.Core.run Sys2Proof.core (n + 1) { s with pending := .servoExpiry :: q } =
      Host.Core.run Sys2Proof.core n (State.servoExpiry { s with pending := q }) := rfl

/-- The expiries left of a monitor test whose every comparison detects the shift prove the monitor (R90). -/
theorem run_provingTest (q : List Instr) (left n : Nat) (s : State) (hn : n + left = 15) (h : s.xhs.mode = .disabled)
    (hm : s.xhs.monitor = some (provingTest n)) (ht : 0 ≤ s.xhs.config.trackTolerance) :
    Host.Core.run Sys2Proof.core (left + 1) { s with pending := List.replicate (left + 1) .servoExpiry ++ q } =
      .next (State.endMonitor true { s.resting none with pending := q }) := by
  induction left generalizing s n with
  | zero =>
    rw [List.replicate_succ, List.cons_append, run_servoExpiry,
      servoExpiry_proving (s := { s with pending := List.replicate 0 .servoExpiry ++ q }) (by omega) h hm ht, if_pos (by omega)]
    rfl
  | succ left ih =>
    rw [List.replicate_succ, List.cons_append, run_servoExpiry,
      servoExpiry_proving (s := { s with pending := List.replicate (left + 1) .servoExpiry ++ q }) (by omega) h hm ht,
      if_neg (by omega)]
    exact ih (n + 1) (s.resting (some (provingTest (n + 1)))) (by omega) h rfl ht

/-- Settles O41: one expiry by `servoExpiry_monitor`, and sixteen by `run_provingTest`. -/
theorem monitorTestProves : Obligations.MonitorTestProves := by
  refine ⟨fun s tag => ⟨fun hf => ⟨fun hc => ?_, fun hc ht => ?_, fun hc ht hb => ?_, fun hc ht hs hm => ?_⟩,
    fun h hm ht => ?_⟩, fun s k h hm => ?_⟩
  · exact exec_refused hf .monitorTest tag rfl (if_pos hc)
  · exact exec_refused hf .monitorTest tag rfl ((if_neg (by simp [hc])).trans (if_pos ht))
  · exact exec_refused hf .monitorTest tag rfl ((if_neg (by simp [hc])).trans ((if_neg (by simp [ht])).trans
      (if_pos (by simpa [Option.isSome_iff_ne_none] using hb))))
  · exact exec_acked hf .monitorTest tag rfl ((if_neg (by simp [hc])).trans ((if_neg (by simp [ht])).trans
      (if_neg (by simp [hs, hm]))))
  · exact run_provingTest s.pending 15 0 s rfl h hm ht
  · have hexpiry := servoExpiry_monitor h hm
    intro tolerance compared before count reached rest ended passes
    have hpasses : ∀ h15 : k.taken = 15, (((k.compared s.xhs.config.trackTolerance s.position).reached &&
        (k.compared s.xhs.config.trackTolerance s.position).firstHalf.getD false) = true ↔ passes) := by
      intro h15
      have hfirst : (k.compared s.xhs.config.trackTolerance s.position).firstHalf = k.firstHalf := if_neg (by omega)
      rw [hfirst, Bool.and_eq_true]
      refine and_congr_right' ?_
      cases k.firstHalf <;> simp
    refine ⟨fun hk => congrArg Host.Outcome.next (hexpiry.trans (if_neg hk)), fun hk hp => ?_, fun hk hp => ?_⟩
    · refine congrArg Host.Outcome.next ((hexpiry.trans (if_pos hk)).trans ?_)
      rw [(hpasses hk).mpr hp]
      rfl
    · refine congrArg Host.Outcome.next ((hexpiry.trans (if_pos hk)).trans ?_)
      rw [Bool.eq_false_iff.mpr (mt (hpasses hk).mp hp)]
      rfl

/-! ### JOG, its lapse, MOVE_TO and STOP (R84 to R88) -/

/-- The third clause of O42: the refusals of a test state and of an OPEN chain. -/
theorem motion_refused (s : State) (tag : Byte) (speed target : Word) (hf : s.lnk.free) :
    (s.testing = true →
      exec (.jog tag speed) s = .next (s.turnedAway 0x17 tag .state 0) ∧
      exec (.moveTo tag target speed) s = .next (s.turnedAway 0x18 tag .state 0) ∧
      exec (.stop tag) s = .next (s.turnedAway 0x19 tag .state 0)) ∧
    (s.testing = false → s.dec.chain = .opened →
      exec (.jog tag speed) s = .next (s.turnedAway 0x17 tag .chain 0) ∧
      exec (.moveTo tag target speed) s = .next (s.turnedAway 0x18 tag .chain 0) ∧
      (s.xhs.mode = .disabled → exec (.stop tag) s = .next (s.acked 0x19 tag []))) := by
  refine ⟨fun ht => ⟨?_, ?_, ?_⟩, fun ht hc => ⟨?_, ?_, fun hm => ?_⟩⟩
  · exact exec_refused hf (.jog speed) tag rfl (if_pos ht)
  · exact exec_refused hf (.moveTo target speed) tag rfl (if_pos ht)
  · exact exec_refused hf .stop tag rfl (if_pos ht)
  · exact exec_refused hf (.jog speed) tag rfl ((if_neg (by simp [ht])).trans (if_pos hc))
  · exact exec_refused hf (.moveTo target speed) tag rfl ((if_neg (by simp [ht])).trans (if_pos hc))
  · refine exec_acked hf .stop tag rfl ((if_neg (by simp [ht])).trans ?_)
    rw [State.stopMotion, hm]

/-- Outside a test with the chain CLOSED, what JOG does by its speed (R84). -/
theorem jog_of_closed (ht : s.testing = false) (hc : s.dec.chain = .closed) (speed : Word) : s.jog speed =
    if ¬ (-600000 ≤ speed.toInt ∧ speed.toInt ≤ 600000) then (s, .no .badValue)
    else if speed.toInt = 0 then (s.jogOff, .ack []) else (s.jogOn speed.toInt, .ack []) := by
  unfold State.jog
  rw [if_neg (by simp [ht]), if_neg (by simp [hc])]
  refine if_congr ?_ rfl rfl
  rw [Bool.not_eq_true', ← Bool.not_eq_true, inRange_iff]

theorem moveValid_iff (c : FrameConfig) (target speed : Int) : c.moveValid target speed = true ↔
    1 ≤ speed ∧ speed ≤ 600000 ∧ c.softLower ≤ target ∧ target ≤ c.softUpper := by
  rw [FrameConfig.moveValid, Bool.and_eq_true, inRange_iff, inRange_iff, and_assoc]

/-- Settles O42: by the range of the operands and the servo mode. -/
theorem jogMoveStop : Obligations.JogMoveStop := by
  refine ⟨fun s tag speed target hf ht hc => ?_, fun s => ⟨fun hm hr => ?_, fun h => ?_⟩, motion_refused⟩
  · intro still jogging moving jogs moves
    have hjog := jog_of_closed ht hc speed
    have hoff : speed.toInt = 0 → s.act (.jog speed) = (s.jogOff, .ack []) := fun h0 =>
      hjog.trans ((if_neg (not_not.mpr (by omega))).trans (if_pos h0))
    have hon : jogs → speed.toInt ≠ 0 → s.act (.jog speed) = (s.jogOn speed.toInt, .ack []) := fun hj h0 =>
      hjog.trans ((if_neg (not_not.mpr hj)).trans (if_neg h0))
    have hmove : moves → s.act (.moveTo target speed) = (s.moveOn target.toInt speed.toInt, .ack []) := fun hm =>
      (if_neg (by simp [ht])).trans ((if_neg (by simp [hc])).trans (if_pos ((moveValid_iff _ _ _).mpr hm)))
    have hstop : s.act .stop = (s.stopMotion, .ack []) := if_neg (by simp [ht])
    refine ⟨fun hj => ?_, fun hj h0 hm => ?_, fun hj h0 hm => ?_, fun h0 hm => ?_, fun h0 hm => ?_, fun h0 hm => ?_,
      fun hm => ?_, fun hv hm => ?_, fun hv hm => ?_, fun hv hm => ?_, fun hm => ?_, fun hm => ?_, fun hm => ?_⟩
    · exact exec_refused hf (.jog speed) tag rfl (hjog.trans (if_pos hj))
    · refine exec_acked hf (.jog speed) tag rfl ((hon hj h0).trans ?_)
      obtain hm | hm := hm <;> · rw [State.jogOn, hm]; rfl
    · refine exec_acked hf (.jog speed) tag rfl ((hon hj h0).trans ?_)
      rw [State.jogOn, hm]
      rfl
    · refine exec_acked hf (.jog speed) tag rfl ((hoff h0).trans ?_)
      rw [State.jogOff, hm]
    · refine exec_acked hf (.jog speed) tag rfl ((hoff h0).trans ?_)
      rw [State.jogOff, hm]
      rfl
    · refine exec_acked hf (.jog speed) tag rfl ((hoff h0).trans ?_)
      rw [State.jogOff, hm]
      rfl
    · exact exec_refused hf (.moveTo target speed) tag rfl ((if_neg (by simp [ht])).trans ((if_neg (by simp [hc])).trans
        (if_neg (mt (moveValid_iff _ _ _).mp hm))))
    · refine exec_acked hf (.moveTo target speed) tag rfl ((hmove hv).trans ?_)
      rw [State.moveOn, hm]
      rfl
    · refine exec_acked hf (.moveTo target speed) tag rfl ((hmove hv).trans ?_)
      rw [State.moveOn, hm]
      rfl
    · refine exec_acked hf (.moveTo target speed) tag rfl ((hmove hv).trans ?_)
      rw [State.moveOn, hm]
      rfl
    · refine exec_acked hf .stop tag rfl (hstop.trans ?_)
      rw [State.stopMotion, hm]
      rfl
    · refine exec_acked hf .stop tag rfl (hstop.trans ?_)
      rw [State.stopMotion, hm, State.jogOff, hm]
      rfl
    · refine exec_acked hf .stop tag rfl (hstop.trans ?_)
      rw [State.stopMotion, hm, State.jogOff, hm]
      rfl
  · exact congrArg Host.Outcome.next (if_pos ⟨hm, hr⟩)
  · exact congrArg Host.Outcome.next (if_neg fun hn => h.elim (fun hm => hm hn.1) fun hr => hr hn.2)

/-! ### FRAME_CONFIG (R91, R92) -/

theorem overloadAllowed_iff (c : FrameConfig) (s : State) : s.overloadAllowed c = true ↔
    ∀ p, s.tsq.active = some p → p.spec.testOverload ≤ c.frameOverload := by
  unfold State.overloadAllowed
  cases s.tsq.active <;> simp

/-- The checks of FRAME_CONFIG; the soft limits, as signed 32-bit values, are always in range (R92). -/
theorem inRanges_iff (f : FrameConfigFields) : (frameConfigOf f).inRanges = true ↔
    (1 ≤ f.maxSpeed.toInt ∧ f.maxSpeed.toInt ≤ 600000) ∧ (1 ≤ f.guardSpeed.toInt ∧ f.guardSpeed.toInt ≤ 60000) ∧
    (1 ≤ f.fullScale.toInt ∧ f.fullScale.toInt ≤ 1000000) ∧
    (100 ≤ f.trackTolerance.toInt ∧ f.trackTolerance.toInt ≤ 1000000) ∧ (1000 ≤ f.tau.toInt ∧ f.tau.toInt ≤ 200000) ∧
    (0 ≤ f.kpPos.toInt ∧ f.kpPos.toInt ≤ 6000) ∧ (0 ≤ f.kStrain.toInt ∧ f.kStrain.toInt ≤ 100000) ∧
    (0 ≤ f.kStress.toInt ∧ f.kStress.toInt ≤ 100000) ∧ (0 ≤ f.compliance.toInt ∧ f.compliance.toInt ≤ 100000) ∧
    (1 ≤ f.frameOverload.toInt ∧ f.frameOverload.toInt ≤ 8000000) ∧ f.softLower.toInt < f.softUpper.toInt := by
  have hword : ∀ w : Word, -2147483648 ≤ w.toInt ∧ w.toInt ≤ 2147483647 := by
    intro w
    have hlo := BitVec.le_toInt w
    have hhi := BitVec.toInt_lt (x := w)
    omega
  simp only [FrameConfig.inRanges, Bool.and_eq_true, inRange_iff, decide_eq_true_eq]
  simp only [frameConfigOf, hword, and_true, and_assoc]

/-- Settles O43: by the checks in order, and by whether tolerance or τ changes. -/
theorem frameConfigWrites : Obligations.FrameConfigWrites := by
  intro s tag f hf c within good written kept
  have hgood : ((frameConfigOf f).inRanges && s.overloadAllowed (frameConfigOf f)) = true ↔ good := by
    rw [Bool.and_eq_true, inRanges_iff, overloadAllowed_iff]
    simp only [good, within, c, and_assoc]
    rfl
  have hset : s.dec.chain = .opened → good → s.act (.frameConfig f) = (s.setFrameConfig c, .ack []) := fun hc hg =>
    (if_neg (by simp [hc])).trans (if_pos (hgood.mpr hg))
  have hkept : (c.trackTolerance ≠ s.xhs.config.trackTolerance ∨ c.tau ≠ s.xhs.config.tau) ↔ ¬ kept := by
    rw [← not_and_or]
  refine ⟨fun hc => ?_, fun hc hg => ?_, fun hc hg hk => ?_, fun hc hg hk hm => ?_, fun hc hg hk hm => ?_⟩
  · exact exec_refused hf (.frameConfig f) tag rfl (if_pos hc)
  · exact exec_refused hf (.frameConfig f) tag rfl ((if_neg (by simp [hc])).trans (if_neg (mt hgood.mp hg)))
  · exact exec_acked hf (.frameConfig f) tag rfl ((hset hc hg).trans
      (congrArg (·, _) (if_neg (mt hkept.mp (not_not.mpr hk)))))
  · exact exec_acked hf (.frameConfig f) tag rfl ((hset hc hg).trans (congrArg (·, _) ((if_pos (hkept.mpr hk)).trans
      (if_neg (by simp [hm])))))
  · exact exec_acked hf (.frameConfig f) tag rfl ((hset hc hg).trans (congrArg (·, _) ((if_pos (hkept.mpr hk)).trans
      (if_pos (Option.isSome_iff_ne_none.mpr hm)))))

end Sys2Proof.Machine
end

section
/-! SUPPORT. The expiry of the servo timer: its stages one by one, what they keep, and the velocity command (R72 to R89). -/

namespace Sys2Proof.Machine

variable {s t : State}

/-! ### What the stages keep -/

theorem advanceRate_kept (x : Xhs) : x.advanceRate = { x with
    effRate := x.advanceRate.effRate, transition := x.advanceRate.transition } := by
  unfold Xhs.advanceRate
  split
  · rfl
  · dsimp only
    split <;> rfl

/-- The items of XHS that an expiry advances in stage 1, besides those of an arrival. -/
def Xhs.demanding (x : Xhs) (posAcc : Int) (rateAcc : RateDemand) (effRate : Int) (transition : Option RateTransition) : Xhs :=
  { x with posAcc := posAcc, rateAcc := rateAcc, effRate := effRate, transition := transition }

theorem Onward.demanding (s : State) (p : Int) (r : RateDemand) (e : Int) (o : Option RateTransition) :
    Onward s { s with xhs := s.xhs.demanding p r e o } := .xhs s _ rfl rfl rfl

theorem rateExpiry_xhs (s : State) : ∃ r e o, s.rateExpiry.1 = s.xhs.demanding s.xhs.posAcc r e o := by
  have hadvanced : ∀ acc : Int, ∃ r e o, { s.xhs.advanceRate with rateAcc := .value acc } =
      s.xhs.demanding s.xhs.posAcc r e o := by
    intro acc
    rw [advanceRate_kept]
    exact ⟨_, _, _, rfl⟩
  unfold State.rateExpiry
  dsimp only
  split
  · exact hadvanced _
  · exact hadvanced _
  · split
    · exact hadvanced _
    · exact ⟨_, _, _, rfl⟩
  · exact ⟨_, _, _, rfl⟩

theorem Onward.returnEnded (s : State) : Onward s s.returnEnded := by
  unfold State.returnEnded
  split
  exacts [.enterEnded s _, .refl s]

theorem Onward.stillExpiry (s : State) : Onward s s.stillExpiry.1 := .xhs s _ rfl rfl rfl

theorem Onward.moveExpiry (s : State) : Onward s s.moveExpiry.1 := by
  unfold State.moveExpiry
  split
  · exact .refl s
  · dsimp only
    split
    · refine Onward.trans ?_ (.stillExpiry _)
      unfold State.moveArrived
      dsimp only
      split
      · refine Onward.trans ?_ (.returnEnded _)
        exact .xhs s _ rfl rfl rfl
      · refine Onward.then_put ?_ _
        exact .xhs s _ rfl rfl rfl
    · exact .xhs s _ rfl rfl rfl

/-- Stage 1 keeps what `Onward` names (R72). -/
theorem Onward.formCommand (s : State) : Onward s s.formCommand.1 := by
  have hrate : Onward s { s with xhs := s.rateExpiry.1 } := by
    obtain ⟨r, e, o, h⟩ := rateExpiry_xhs s
    rw [h]
    exact .demanding s _ r e o
  unfold State.formCommand
  split
  · exact .refl s
  · exact .stillExpiry s
  · exact .xhs s _ rfl rfl rfl
  · exact .moveExpiry s
  · exact .moveExpiry s
  · split
    · dsimp only
      rw [advanceRate_kept]
      exact .xhs s _ rfl rfl rfl
    · exact hrate
    · exact hrate

theorem Onward.applyEscape (c : State × Int) : Onward c.1 (State.applyEscape c).1 := by
  unfold State.applyEscape
  split
  · unfold State.restDemand
    dsimp only
    split
    · split
      · exact .xhs _ _ rfl rfl rfl
      · exact .refl _
    · exact .xhs _ _ rfl rfl rfl
  · exact .refl _

theorem Onward.softLimitHold (s : State) : Onward s s.softLimitHold := by
  unfold State.softLimitHold
  split
  exacts [.enterTest s _, .refl s]

theorem Onward.softLimits (c : State × Int) : Onward c.1 (State.softLimits c).1 := by
  unfold State.softLimits
  split
  · have hrest : Onward c.1 { c.1 with xhs := { c.1.xhs with posAcc := c.1.xhs.restAcc } } := .xhs _ _ rfl rfl rfl
    refine hrest.trans ?_
    generalize { c.1 with xhs := { c.1.xhs with posAcc := c.1.xhs.restAcc } } = u
    unfold State.softLimitEffect
    split
    · exact .refl u
    · exact .refl u
    · exact (Onward.xhs u u.xhs.toStill rfl rfl rfl).then_put _
    · exact .refl u
    · exact ((Onward.xhs u u.xhs.stopped rfl rfl rfl).then_put _).trans (.softLimitHold _)
    · exact ((Onward.xhs u u.xhs.toStill rfl rfl rfl).then_put _).trans (.returnEnded _)
  · exact .refl _

theorem moveExpiry_dec (s : State) : s.moveExpiry.1.dec = s.dec := by
  unfold State.moveExpiry
  split
  · rfl
  · dsimp only
    split
    · unfold State.stillExpiry State.moveArrived
      dsimp only
      split <;> simp
    · rfl

/-- Stage 1 leaves DEC: the speed limit is that of the guard mode at the expiry (R81). -/
theorem formCommand_dec (s : State) : s.formCommand.1.dec = s.dec := by
  unfold State.formCommand
  split
  · rfl
  · rfl
  · rfl
  · exact moveExpiry_dec s
  · exact moveExpiry_dec s
  · split <;> rfl

theorem applyEscape_dec (c : State × Int) : (State.applyEscape c).1.dec = c.1.dec := by
  unfold State.applyEscape
  split <;> simp

theorem softLimits_dec (c : State × Int) : (State.softLimits c).1.dec = c.1.dec := by
  unfold State.softLimits
  split <;> simp

/-! ### The stages of an expiry (R72) -/

/-- Stage 3 clamps to the limit of the configuration and the guard mode at the expiry (R81). -/
theorem speedLimit_escaped (s : State) : (State.applyEscape s.formCommand).1.speedLimit =
    if s.dec.guardMode then min s.xhs.config.guardSpeed s.xhs.config.maxSpeed else s.xhs.config.maxSpeed := by
  unfold State.speedLimit
  rw [applyEscape_dec, formCommand_dec, (Onward.applyEscape _).config, (Onward.formCommand s).config]

theorem commandStages_eq (s : State) : s.commandStages =
    State.softLimits ((State.applyEscape s.formCommand).1,
      clampTo (-(if s.dec.guardMode then min s.xhs.config.guardSpeed s.xhs.config.maxSpeed else s.xhs.config.maxSpeed))
        (if s.dec.guardMode then min s.xhs.config.guardSpeed s.xhs.config.maxSpeed else s.xhs.config.maxSpeed)
        (State.applyEscape s.formCommand).2) := by
  rw [← speedLimit_escaped]
  rfl

theorem Onward.commandStages (s : State) : Onward s s.commandStages.1 :=
  let c := State.applyEscape s.formCommand
  ((Onward.formCommand s).trans (.applyEscape _)).trans (Onward.softLimits (c.1, c.1.clampSpeed c.2))

/-- A trip keeps the velocity command or makes it 0 (R70). -/
theorem trip_velocity (c : TripCause) (s : State) : (s.trip c).xhs.velocity = s.xhs.velocity ∨ (s.trip c).xhs.velocity = 0 := by
  rw [trip_xhs]
  split
  · exact .inr rfl
  · exact .inl rfl

theorem checkTracking_velocity (s : State) :
    s.checkTracking.xhs.velocity = s.xhs.velocity ∨ s.checkTracking.xhs.velocity = 0 := by
  unfold State.checkTracking
  dsimp only
  split
  · exact trip_velocity .tracking { s with xhs := { s.xhs with trackCount := s.xhs.nextTrackCount } }
  · exact .inl rfl

/-- The command that leaves stage 4 is 0 or clamped (R81, R82). -/
theorem softLimits_command (c : State × Int) : (State.softLimits c).2 = c.2 ∨ (State.softLimits c).2 = 0 := by
  unfold State.softLimits
  split
  · exact .inr rfl
  · exact .inl rfl

theorem clampTo_within {limit : Int} (h : 0 ≤ limit) (v : Int) : ((clampTo (-limit) limit v).natAbs : Int) ≤ limit := by
  unfold clampTo
  split_ifs <;> omega

/-- Settles O45: the command is clamped in stage 3, and nothing after it makes it other than 0. -/
theorem velocityWithinLimits : Obligations.VelocityWithinLimits := by
  intro s hmax hguard
  let limit : Int := if s.dec.guardMode then min s.xhs.config.guardSpeed s.xhs.config.maxSpeed else s.xhs.config.maxSpeed
  have hlimit : 0 ≤ limit ∧ limit ≤ s.xhs.config.maxSpeed ∧ (s.dec.guardMode = true → limit ≤ s.xhs.config.guardSpeed) := by
    dsimp only [limit]
    split
    case isTrue => exact ⟨le_min hguard hmax, min_le_right _ _, fun _ => min_le_left _ _⟩
    case isFalse h => exact ⟨hmax, le_rfl, fun hg => absurd hg h⟩
  obtain ⟨hpos, hlemax, hleguard⟩ := hlimit
  have hcommand : (s.commandStages.2.natAbs : Int) ≤ limit := by
    rw [commandStages_eq]
    obtain h | h := softLimits_command ((State.applyEscape s.formCommand).1,
      clampTo (-limit) limit (State.applyEscape s.formCommand).2)
    · rw [h]
      exact clampTo_within hpos _
    · rw [h]
      exact hpos
  have hvelocity : (s.servoExpiry.xhs.velocity.natAbs : Int) ≤ limit := by
    by_cases hm : s.xhs.mode = .disabled
    · rw [servoExpiry_disabled hm]
      have hzero : (s.resting s.xhs.monitor).monitorExpiry.xhs.velocity = 0 := by
        unfold State.monitorExpiry State.endMonitor
        split
        · rfl
        · dsimp only
          split <;> simp [State.resting]
      rw [hzero]
      exact hpos
    · have hexpiry : s.servoExpiry = s.activeExpiry := if_neg hm
      have hkept : s.servoExpiry.xhs.velocity = s.commandStages.2 ∨ s.servoExpiry.xhs.velocity = 0 := by
        rw [hexpiry]
        exact checkTracking_velocity (State.driveSpeed s.commandStages)
      obtain h | h := hkept
      · rw [h]
        exact hcommand
      · rw [h]
        exact hpos
  exact ⟨s.servoExpiry, rfl, hvelocity.trans hlemax, fun hg => hvelocity.trans (hleguard hg)⟩

/-! ### Stage 1 by mode and class (R73 to R78, R86, R87) -/

theorem formCommand_still (hm : s.xhs.mode = .still) : s.formCommand = s.stillExpiry := by
  unfold State.formCommand
  rw [hm]

theorem formCommand_jog (hm : s.xhs.mode = .jog) : s.formCommand =
    ({ s with xhs := s.xhs.advancePosition }, s.xhs.advancePosition.positionCommand) := by
  unfold State.formCommand
  rw [hm]

theorem formCommand_position (hm : s.xhs.mode = .step) (hc : s.xhs.controlClass = .position) : s.formCommand =
    ({ s with xhs := s.xhs.advanceRate.advancePosition }, s.xhs.advanceRate.advancePosition.positionCommand) := by
  unfold State.formCommand
  rw [hm]
  dsimp only
  rw [hc]

theorem lastQuantity_eq (s : State) : s.lastQuantity s.xhs.controlClass =
    (match s.smp.last, s.xhs.controlClass with
     | some l, .strain => l.sample.strain
     | some l, .stress => l.sample.stress
     | _, _ => none) := by
  unfold State.lastQuantity
  cases s.xhs.controlClass <;> cases s.smp.last <;> rfl

theorem advanceRate_eq (x : Xhs) : x.advanceRate =
    (match x.transition with
     | none => x
     | some r =>
       if r.time ≤ r.elapsed + 500 then { x with effRate := r.target, transition := none }
       else { x with effRate := r.start + roundDiv ((r.target - r.start) * (r.elapsed + 500)) r.time,
                     transition := some { r with elapsed := r.elapsed + 500 } }) := by
  unfold Xhs.advanceRate
  cases x.transition <;> rfl

/-- In a step of class STRAIN or STRESS stage 1 is the rate law (R74, R75). -/
theorem formCommand_rate (hm : s.xhs.mode = .step) (hc : s.xhs.controlClass = .strain ∨ s.xhs.controlClass = .stress) :
    s.formCommand = ({ s with xhs := s.rateExpiry.1 }, s.rateExpiry.2) := by
  unfold State.formCommand
  rw [hm]
  dsimp only
  obtain hc | hc := hc <;> rw [hc]

/-- The rate law of an accumulator, by the class (R74, R75). -/
theorem rateCommand_eq (x : Xhs) (acc q : Int) (hc : x.controlClass = .strain ∨ x.controlClass = .stress) :
    x.rateCommand acc q = x.velocity +
      (if x.controlClass = .strain then roundDiv (x.config.kStrain * (Int.tdiv acc 2000 - q)) 100
       else roundDiv (x.config.kStress * (Int.tdiv acc 2000 - q)) 1000) := by
  unfold Xhs.rateCommand FrameConfig.rateGain
  obtain hc | hc := hc <;> rw [hc] <;> rfl

/-- XHS with the rate and the accumulator of a step advanced (R74 to R77). -/
def Xhs.rated (x : Xhs) (acc : Int) : Xhs :=
  { x.advanceRate with rateAcc := .value (acc + x.advanceRate.effRate) }

theorem rated_eq (x : Xhs) (acc : Int) : x.rated acc = { x with
    effRate := x.advanceRate.effRate, transition := x.advanceRate.transition,
    rateAcc := .value (acc + x.advanceRate.effRate) } := by
  unfold Xhs.rated
  rw [advanceRate_kept]

/-- The rate law on an accumulator that holds a value, or takes one (R74, R75, R78). -/
theorem formCommand_valued (hm : s.xhs.mode = .step) (hc : s.xhs.controlClass = .strain ∨ s.xhs.controlClass = .stress)
    {acc q : Int} (h : s.rateExpiry = (s.xhs.rated acc, (s.xhs.rated acc).rateCommand (acc + s.xhs.advanceRate.effRate) q)) :
    s.formCommand = ({ s with xhs := s.xhs.rated acc }, s.xhs.velocity +
      (if s.xhs.controlClass = .strain then
         roundDiv (s.xhs.config.kStrain * (Int.tdiv (acc + s.xhs.advanceRate.effRate) 2000 - q)) 100
       else roundDiv (s.xhs.config.kStress * (Int.tdiv (acc + s.xhs.advanceRate.effRate) 2000 - q)) 1000)) := by
  have hclass : (s.xhs.rated acc).controlClass = s.xhs.controlClass := by rw [rated_eq]
  have hcommand := rateCommand_eq (s.xhs.rated acc) (acc + s.xhs.advanceRate.effRate) q (by rwa [hclass])
  rw [formCommand_rate hm hc, h, hcommand, rated_eq]

/-- The accumulator of a move stops at the target (R86). -/
theorem moveAcc_eq (acc rate goal : Int) : moveAcc acc rate goal =
    if 0 < rate then min (acc + rate) goal else if rate < 0 then max (acc + rate) goal else acc := by
  unfold moveAcc
  split_ifs <;> omega

theorem arrived_iff (x : Xhs) (g : MoveTarget) : x.arrived g = true ↔
    x.positionDemand = g.position ∧ (x.position - g.position).natAbs ≤ 10 := by
  unfold Xhs.arrived absDiff
  rw [Bool.and_eq_true, decide_eq_true_eq, decide_eq_true_eq]
  omega

/-! ### Stages 2 and 4 (R80, R82) -/

theorem escapeBlocks_iff (x : Xhs) (v : Int) : x.escapeBlocks v = true ↔
    (x.escapeUp = true ∧ 0 < v) ∨ (x.escapeDown = true ∧ v < 0) := by
  simp [Xhs.escapeBlocks]

theorem restDemand_of (h : s.xhs.mode = .step ∧ s.xhs.controlClass ≠ .position) {acc q : Int}
    (ha : s.xhs.rateAcc = .value acc) (hq : s.lastQuantity s.xhs.controlClass = some q) :
    s.restDemand = { s with xhs := { s.xhs with rateAcc := .value (2000 * q) } } := by
  refine (if_pos h).trans ?_
  rw [ha, hq]
  rfl

/-- A demand without its quantity, and a waiting one, stay as they are (R80). -/
theorem restDemand_kept (h : s.xhs.mode = .step ∧ s.xhs.controlClass ≠ .position)
    (hn : s.lastQuantity s.xhs.controlClass = none ∨ ∃ since, s.xhs.rateAcc = .waiting since) : s.restDemand = s := by
  refine (if_pos h).trans ?_
  obtain hq | ⟨since, ha⟩ := hn
  · rw [hq]
    cases s.xhs.rateAcc <;> rfl
  · rw [ha]

theorem beyond_iff (x : Xhs) (v : Int) : (x.beyondUpper v || x.beyondLower v) = true ↔
    (x.config.softUpper ≤ x.position ∧ 0 < v) ∨ (x.position ≤ x.config.softLower ∧ v < 0) := by
  simp [Xhs.beyondUpper, Xhs.beyondLower]

/-- The limit that a command beyond a soft limit runs toward (R82). -/
theorem beyondUpper_of {x : Xhs} {v : Int} {upper : Bool}
    (h : if upper then x.config.softUpper ≤ x.position ∧ 0 < v else x.position ≤ x.config.softLower ∧ v < 0) :
    x.beyondUpper v = upper ∧ (x.beyondUpper v || x.beyondLower v) = true := by
  cases upper with
  | true => simp_all [Xhs.beyondUpper]
  | false =>
    obtain ⟨hp, hv⟩ : x.position ≤ x.config.softLower ∧ v < 0 := by simpa using h
    have hnot : ¬ 0 < v := by omega
    simp [Xhs.beyondUpper, Xhs.beyondLower, hnot, hp, hv]

/-- A put reads and changes nothing of TSQ. -/
theorem put_withTsq (x : Tsq) (e : Event) (s : State) :
    State.put e { s with tsq := x } = { s.put e with tsq := x } := by
  unfold State.put
  split <;> rfl

/-- A test state entered after an event puts TEST after it. -/
theorem enterTest_put (x : TestState) (e : Event) (s : State) :
    (s.put e).enterTest x = State.putAll [e, .test x] { s with tsq := { s.tsq with state := x } } := by
  have htsq : (s.put e).tsq = s.tsq := by simp
  unfold State.enterTest
  rw [htsq, ← put_withTsq]
  rfl

/-! ### A calm expiry (R72) -/

/-- The part after an expiry whose command, at most clamped, goes to the drive, with the model on track (R81, R83, R89). -/
def State.driven (y : Xhs) (limit command : Int) (s : State) : State :=
  let v := clampTo (-limit) limit command
  let mv := s.xhs.modelVelocity + roundDiv ((v - s.xhs.modelVelocity) * 500) s.xhs.config.tau
  { s with xhs := { y with
      velocity := v, speedWord := clampTo (-32767) 32767 (roundDiv (v * 32767) s.xhs.config.fullScale), trackCount := 0,
      modelVelocity := mv, modelAcc := s.xhs.modelAcc + mv } }

/-- Without an escape, inside the soft limits and with the model on track, an expiry drives the clamped command of stage 1. -/
theorem servoExpiry_calm {p : Int} {r : RateDemand} {e : Int} {o : Option RateTransition} {command : Int}
    (hm : s.xhs.mode ≠ .disabled) (hup : s.xhs.escapeUp = false) (hdown : s.xhs.escapeDown = false)
    (hlower : s.xhs.config.softLower < s.position) (hupper : s.position < s.xhs.config.softUpper)
    (htrack : ((Int.tdiv s.xhs.modelAcc 12000 - s.position).natAbs : Int) ≤ s.xhs.config.trackTolerance)
    (hform : s.formCommand = ({ s with xhs := s.xhs.demanding p r e o }, command)) :
    s.servoExpiry = s.driven (s.xhs.demanding p r e o)
      (if s.dec.guardMode then min s.xhs.config.guardSpeed s.xhs.config.maxSpeed else s.xhs.config.maxSpeed) command := by
  have hescape : State.applyEscape s.formCommand = s.formCommand := by
    rw [hform]
    refine if_neg ((escapeBlocks_iff _ _).not.mpr ?_)
    show ¬ ((s.xhs.escapeUp = true ∧ _) ∨ (s.xhs.escapeDown = true ∧ _))
    simp [hup, hdown]
  have hlimits : ∀ v : Int, State.softLimits ({ s with xhs := s.xhs.demanding p r e o }, v) =
      ({ s with xhs := s.xhs.demanding p r e o }, v) := by
    intro v
    refine if_neg ((beyond_iff _ _).not.mpr ?_)
    show ¬ ((s.xhs.config.softUpper ≤ s.position ∧ _) ∨ (s.position ≤ s.xhs.config.softLower ∧ _))
    omega
  have hstages := commandStages_eq s
  rw [hescape, hform, hlimits] at hstages
  have hcheck : ∀ u : State, u.xhs.config.trackTolerance = s.xhs.config.trackTolerance → u.xhs.modelAcc = s.xhs.modelAcc →
      u.xhs.position = s.position → u.checkTracking = { u with xhs := { u.xhs with trackCount := 0 } } := by
    intro u ht ha hp
    have hcount : u.xhs.nextTrackCount = 0 := by
      refine if_neg ?_
      rw [ht, hp, Xhs.modelPosition, ha]
      exact not_lt.mpr htrack
    unfold State.checkTracking
    rw [hcount]
    rfl
  refine (if_neg hm).trans ?_
  unfold State.activeExpiry
  rw [hstages, hcheck]
  all_goals rfl

/-! ### Stages 5 and 6 (R83, R89) -/

/-- The tracking check and the advance of the model after it, by the distance of the model and the count (R89). -/
theorem servoExpiry_tracked (hm : s.xhs.mode ≠ .disabled) :
    let t := s.commandStages.1
    let far : Prop := s.xhs.config.trackTolerance < ((Int.tdiv t.xhs.modelAcc 12000 - s.position).natAbs : Int)
    let driven (count : Nat) : State :=
      { t with xhs := { t.xhs with
          velocity := s.commandStages.2,
          speedWord := clampTo (-32767) 32767 (roundDiv (s.commandStages.2 * 32767) s.xhs.config.fullScale),
          trackCount := count } }
    let advanced (u : State) : State := { u with xhs := { u.xhs with
      modelVelocity := u.xhs.modelVelocity + roundDiv ((u.xhs.velocity - u.xhs.modelVelocity) * 500) s.xhs.config.tau,
      modelAcc := u.xhs.modelAcc + (u.xhs.modelVelocity +
        roundDiv ((u.xhs.velocity - u.xhs.modelVelocity) * 500) s.xhs.config.tau) } }
    (¬ far → s.servoExpiry = advanced (driven 0)) ∧
    (far → t.xhs.trackCount < 2 → s.servoExpiry = advanced (driven (t.xhs.trackCount + 1))) ∧
    (far → 2 ≤ t.xhs.trackCount → s.servoExpiry = advanced (State.trip .tracking (driven (t.xhs.trackCount + 1)))) := by
  intro t far driven advanced
  have honward : Onward s t := .commandStages s
  have hdrive : State.driveSpeed s.commandStages = driven t.xhs.trackCount := by
    unfold State.driveSpeed
    rw [honward.config]
    rfl
  have hcount : (driven t.xhs.trackCount).xhs.nextTrackCount = if far then t.xhs.trackCount + 1 else 0 := by
    have hposition : (driven t.xhs.trackCount).xhs.position = s.position := honward.position
    unfold Xhs.nextTrackCount
    rw [hposition, show (driven t.xhs.trackCount).xhs.config = s.xhs.config from honward.config]
    rfl
  have hexpiry : s.servoExpiry = { (driven t.xhs.trackCount).checkTracking with
      xhs := (driven t.xhs.trackCount).checkTracking.xhs.advanceModel } := by
    rw [← hdrive]
    exact if_neg hm
  have hadvance : ∀ u : State, u.xhs.config = s.xhs.config → { u with xhs := u.xhs.advanceModel } = advanced u := by
    intro u hu
    dsimp only [advanced]
    rw [← hu]
    rfl
  unfold State.checkTracking at hexpiry
  rw [hcount] at hexpiry
  refine ⟨fun hf => ?_, fun hf hc => ?_, fun hf hc => ?_⟩
  · rw [if_neg hf] at hexpiry
    exact hexpiry.trans (hadvance (driven 0) honward.config)
  · rw [if_pos hf] at hexpiry
    dsimp only at hexpiry
    rw [if_neg (by omega)] at hexpiry
    exact hexpiry.trans (hadvance (driven (t.xhs.trackCount + 1)) honward.config)
  · rw [if_pos hf] at hexpiry
    dsimp only at hexpiry
    rw [if_pos (by omega)] at hexpiry
    refine hexpiry.trans (hadvance (State.trip .tracking (driven (t.xhs.trackCount + 1))) ?_)
    exact (Onward.trip (driven (t.xhs.trackCount + 1)) .tracking).config.trans honward.config

/-- The clauses of O44 about a calm expiry. -/
theorem servoExpiry_by_mode (s : State) :
    let x := s.xhs
    let limit : Int := if s.dec.guardMode then min x.config.guardSpeed x.config.maxSpeed else x.config.maxSpeed
    let calm : Prop :=
      x.escapeUp = false ∧ x.escapeDown = false ∧ x.config.softLower < s.position ∧ s.position < x.config.softUpper ∧
      ((Int.tdiv x.modelAcc 12000 - s.position).natAbs : Int) ≤ x.config.trackTolerance
    (calm → x.mode = .still → s.servoExpiry = s.driven { x with effRate := 0 } limit
      (roundDiv (x.config.kpPos * (Int.tdiv x.posAcc 12000 - s.position)) 10)) ∧
    (calm → x.mode = .jog → s.servoExpiry = s.driven { x with posAcc := x.posAcc + x.effRate } limit
      (x.effRate + roundDiv (x.config.kpPos * (Int.tdiv (x.posAcc + x.effRate) 12000 - s.position)) 10)) ∧
    (∀ (acc e : Int) (l : LastSample), calm → x.mode = .step → x.controlClass = .strain → x.transition = none →
      x.rateAcc = .value acc → s.smp.last = some l → l.sample.strain = some e →
      s.servoExpiry = s.driven { x with rateAcc := .value (acc + x.effRate) } limit
        (x.velocity + roundDiv (x.config.kStrain * (Int.tdiv (acc + x.effRate) 2000 - e)) 100)) := by
  intro x limit calm
  refine ⟨fun hcalm hm => ?_, fun hcalm hm => ?_, fun acc e l hcalm hm hc hn ha hl he => ?_⟩
  all_goals obtain ⟨hup, hdown, hlower, hupper, htrack⟩ := hcalm
  · refine servoExpiry_calm (ne_of_eq_of_ne hm (by decide)) hup hdown hlower hupper htrack ((formCommand_still hm).trans ?_)
    exact congrArg (Prod.mk _) (zero_add _)
  · exact servoExpiry_calm (ne_of_eq_of_ne hm (by decide)) hup hdown hlower hupper htrack (formCommand_jog hm)
  · have hrate : s.xhs.advanceRate = s.xhs := by
      unfold Xhs.advanceRate
      rw [hn]
    have hquantity : s.lastQuantity s.xhs.controlClass = some e := by
      rw [lastQuantity_eq, hl, hc]
      exact he
    have hexpiry : s.rateExpiry = (s.xhs.rated acc, (s.xhs.rated acc).rateCommand (acc + s.xhs.advanceRate.effRate) e) := by
      unfold State.rateExpiry
      dsimp only
      rw [ha, hquantity]
      rfl
    have hform := formCommand_valued hm (.inl hc) hexpiry
    rw [rated_eq, hrate, if_pos hc] at hform
    exact servoExpiry_calm (ne_of_eq_of_ne hm (by decide)) hup hdown hlower hupper htrack hform

/-- Stage 1 of a move or a return with a target (R86, R87). -/
theorem formCommand_move {g : MoveTarget} (hm : s.xhs.mode = .move ∨ s.xhs.mode = .return) (ht : s.xhs.target = some g) :
    s.formCommand =
      if (s.xhs.advanceMove g).arrived g then State.stillExpiry (State.moveArrived { s with xhs := s.xhs.advanceMove g })
      else ({ s with xhs := s.xhs.advanceMove g }, (s.xhs.advanceMove g).positionCommand) := by
  have hform : s.formCommand = s.moveExpiry := by
    unfold State.formCommand
    obtain hm | hm := hm <;> rw [hm]
  rw [hform, State.moveExpiry, ht]

/-- XHS at rest after an arrival (R87). -/
def Xhs.rested (x : Xhs) : Xhs := { x with mode := .still, effRate := 0, target := none }

/-- A state at rest under STILL forms the command of the position law at rate 0. -/
theorem stillExpiry_rested {x : Xhs} (h : s.xhs = x.rested) :
    s.stillExpiry = (s, 0 + roundDiv (x.config.kpPos * (x.positionDemand - x.position)) 10) := by
  have hxhs : { s with xhs := { s.xhs with effRate := 0 } } = s := by
    rw [h]
    show { s with xhs := x.rested } = s
    rw [← h]
  have hcommand : Xhs.positionCommand { s.xhs with effRate := 0 } = 0 + roundDiv (x.config.kpPos * (x.positionDemand - x.position)) 10 := by
    rw [h]
    rfl
  exact congrArg₂ Prod.mk hxhs hcommand

/-- The clause of O44 about a move and a return. -/
theorem formCommand_moving (s : State) (g : MoveTarget) (hm : s.xhs.mode = .move ∨ s.xhs.mode = .return)
    (ht : s.xhs.target = some g) :
    let x := s.xhs
    let demand (y : Xhs) : Int := Int.tdiv y.posAcc 12000
    let law (y : Xhs) : Int := y.effRate + roundDiv (x.config.kpPos * (demand y - s.position)) 10
    let going : Int := if demand x < g.position then g.speed else if g.position < demand x then -g.speed else 0
    let acc : Int :=
      if 0 < going then min (x.posAcc + going) (g.position * 12000)
      else if going < 0 then max (x.posAcc + going) (g.position * 12000) else x.posAcc
    let y := { x with effRate := going, posAcc := acc }
    let arrived : Prop := demand y = g.position ∧ (s.position - g.position).natAbs ≤ 10
    let rested := { y with mode := .still, effRate := 0, target := none }
    (¬ arrived → s.formCommand = ({ s with xhs := y }, law y)) ∧
    (arrived → x.mode = .move →
      s.formCommand = (State.put (.moveDone true) { s with xhs := rested }, law rested)) ∧
    (arrived → x.mode = .return → s.tsq.state = .returning →
      s.formCommand = (State.enterEnded .break { s with xhs := rested }, law rested)) := by
  intro x demand law going acc y arrived rested
  have hy : s.xhs.advanceMove g = y := by
    unfold Xhs.advanceMove
    dsimp only
    rw [moveAcc_eq]
    rfl
  have harrived : (s.xhs.advanceMove g).arrived g = true ↔ arrived := by
    rw [hy]
    exact arrived_iff y g
  have hform := formCommand_move hm ht
  refine ⟨fun hn => ?_, fun ha hmode => ?_, fun ha hmode hreturning => ?_⟩
  · rw [if_neg (mt harrived.mp hn), hy] at hform
    exact hform
  · rw [if_pos (harrived.mpr ha), hy] at hform
    have hmoved : State.moveArrived { s with xhs := y } = State.put (.moveDone true) { s with xhs := rested } :=
      if_neg (ne_of_eq_of_ne hmode (by decide))
    rw [hmoved] at hform
    exact hform.trans (stillExpiry_rested (x := y) (by simp; rfl))
  · rw [if_pos (harrived.mpr ha), hy] at hform
    have hmoved : State.moveArrived { s with xhs := y } = State.enterEnded .break { s with xhs := rested } :=
      (if_pos hmode).trans (if_pos hreturning)
    rw [hmoved] at hform
    exact hform.trans (stillExpiry_rested (x := y) (by simp; rfl))

/-- Settles O44: the stages by their equations. -/
theorem servoExpiryLaws : Obligations.ServoExpiryLaws := by
  refine ⟨fun s => ?_, fun s hm => ?_, fun s => ?_, fun s v => ?_, fun s v => ?_⟩
  · obtain ⟨hstill, hjog, hstrain⟩ := servoExpiry_by_mode s
    exact ⟨fun hm hn => congrArg Host.Outcome.next ((servoExpiry_disabled hm).trans (by
        rw [hn]
        rfl)),
      fun hcalm hm => congrArg Host.Outcome.next (hstill hcalm hm), fun hcalm hm => congrArg Host.Outcome.next (hjog hcalm hm),
      fun acc e l hcalm hm hc hn ha hl he => congrArg Host.Outcome.next (hstrain acc e l hcalm hm hc hn ha hl he)⟩
  · have htracked := servoExpiry_tracked hm
    rw [commandStages_eq] at htracked
    obtain ⟨hnear, hfar, htrip⟩ := htracked
    exact ⟨fun hf => congrArg Host.Outcome.next (hnear hf), fun hf hc => congrArg Host.Outcome.next (hfar hf hc),
      fun hf hc => congrArg Host.Outcome.next (htrip hf hc)⟩
  · intro x at_ demand law ramped quantity rateLaw rate rateStep
    have hramped : s.xhs.advanceRate = ramped := advanceRate_eq s.xhs
    have hquantity : s.lastQuantity s.xhs.controlClass = quantity := lastQuantity_eq s
    have hrate : ∀ acc : Int, s.xhs.rated acc = rate acc := fun acc => by
      dsimp only [rate]
      rw [← hramped]
      rfl
    refine ⟨fun hm => ?_, fun hm => ?_, fun hm hc => ?_, fun acc q hs ha hq => ?_, fun acc hs ha hq => ?_,
      fun since q hs ha hq hnew => ?_, fun since hs ha hq => ?_, fun g hm ht => formCommand_moving s g hm ht⟩
    · exact formCommand_still hm
    · exact formCommand_jog hm
    · have hposition : s.xhs.advanceRate.advancePosition = { ramped with posAcc := x.posAcc + ramped.effRate } := by
        rw [← hramped, Xhs.advancePosition, show s.xhs.advanceRate.posAcc = s.xhs.posAcc by rw [advanceRate_kept]]
      refine (formCommand_position hm hc).trans ?_
      rw [hposition, ← hramped]
      rw [advanceRate_kept]
      rfl
    · have hexpiry : s.rateExpiry = (s.xhs.rated acc, (s.xhs.rated acc).rateCommand (acc + s.xhs.advanceRate.effRate) q) := by
        unfold State.rateExpiry
        dsimp only
        rw [show s.xhs.rateAcc = .value acc from ha, hquantity, hq]
        rfl
      have hform := formCommand_valued hs.1 hs.2 hexpiry
      rw [hrate, hramped] at hform
      exact hform
    · have hexpiry : s.rateExpiry = (s.xhs.rated acc, s.xhs.velocity) := by
        unfold State.rateExpiry
        dsimp only
        rw [show s.xhs.rateAcc = .value acc from ha, hquantity, hq]
        rfl
      rw [formCommand_rate hs.1 hs.2, hexpiry, hrate]
    · have hexpiry : s.rateExpiry = (s.xhs.rated (2000 * q),
          (s.xhs.rated (2000 * q)).rateCommand (2000 * q + s.xhs.advanceRate.effRate) q) := by
        unfold State.rateExpiry
        dsimp only
        rw [show s.xhs.rateAcc = .waiting since from ha, hquantity, hq]
        exact if_pos hnew
      have hform := formCommand_valued hs.1 hs.2 hexpiry
      rw [hrate, hramped] at hform
      exact hform
    · have hexpiry : s.rateExpiry = (s.xhs, s.xhs.velocity) := by
        unfold State.rateExpiry
        dsimp only
        rw [show s.xhs.rateAcc = .waiting since from ha, hquantity]
        cases hquant : quantity with
        | none => rfl
        | some q => exact if_neg (not_lt.mpr (hq.resolve_left (by simp [hquant])))
      rw [formCommand_rate hs.1 hs.2, hexpiry]
  · intro x blocked rateStep quantity
    have hquantity : s.lastQuantity s.xhs.controlClass = quantity := lastQuantity_eq s
    have hstep : (s.xhs.mode = .step ∧ s.xhs.controlClass ≠ .position) ↔ rateStep := by
      refine and_congr_right' ?_
      show _ ↔ s.xhs.controlClass = .strain ∨ s.xhs.controlClass = .stress
      cases s.xhs.controlClass <;> simp
    have hescape : blocked → State.applyEscape (s, v) = (s.restDemand, 0) := fun hb =>
      if_pos ((escapeBlocks_iff s.xhs v).mpr hb)
    refine ⟨fun hb => if_neg ((escapeBlocks_iff s.xhs v).not.mpr hb), fun hb hs => ?_, fun acc q hb hs ha hq => ?_,
      fun hb hs hq => ?_⟩
    · exact (hescape hb).trans (congrArg (·, 0) (if_neg (mt hstep.mp hs)))
    · exact (hescape hb).trans (congrArg (·, 0) (restDemand_of (hstep.mpr hs) ha (hquantity.trans hq)))
    · exact (hescape hb).trans (congrArg (·, 0) (restDemand_kept (hstep.mpr hs) (hq.imp_left hquantity.trans)))
  · intro x above below at_ still t
    have hout : ∀ u : Bool, x.beyondUpper v = u → (above ∨ below) → t =
        (State.softLimitEffect u (at_ x), 0) := fun u hu h => by
      rw [← hu]
      exact if_pos ((beyond_iff s.xhs v).mpr h)
    refine ⟨fun ha hb => if_neg ((beyond_iff s.xhs v).not.mpr (not_or.mpr ⟨ha, hb⟩)), fun h hm => ?_, fun h hm => ?_,
      fun upper hu hm hr => ?_, fun upper hu hm hr => ?_⟩
    · refine (hout _ rfl h).trans (congrArg (·, 0) ?_)
      unfold State.softLimitEffect
      obtain hm | hm := hm <;> rw [show (at_ x).xhs.mode = _ from hm]
    · refine (hout _ rfl h).trans (congrArg (·, 0) ?_)
      unfold State.softLimitEffect
      rw [show (at_ x).xhs.mode = _ from hm]
      rfl
    · obtain ⟨hupper, hbeyond⟩ := beyondUpper_of (x := s.xhs) hu
      refine (hout _ hupper ((beyond_iff s.xhs v).mp hbeyond)).trans (congrArg (·, 0) ?_)
      unfold State.softLimitEffect
      rw [show (at_ x).xhs.mode = _ from hm]
      exact (if_pos (by simpa using hr)).trans (enterTest_put _ _ _)
    · obtain ⟨hupper, hbeyond⟩ := beyondUpper_of (x := s.xhs) hu
      refine (hout _ hupper ((beyond_iff s.xhs v).mp hbeyond)).trans (congrArg (·, 0) ?_)
      unfold State.softLimitEffect
      rw [show (at_ x).xhs.mode = _ from hm]
      exact if_pos (by simpa using hr)

end Sys2Proof.Machine
end

section
/-! SUPPORT. Test profiles: validation and its first failure, forming, the commit and the reads (chapter Test Profiles). -/

namespace Sys2Proof.Machine

/-! ### The first failure of a list of checks (R134, R135) -/

/-- The checks of a list, from a field number on, judge a predicate on field numbers: their numbers rise, a field without a
check is good, and a check passes exactly when its field is good, provided that every earlier field is. -/
def Judged (P : Nat → Prop) : Nat → List FieldCheck → Prop
  | lo, [] => ∀ m, lo ≤ m → P m
  | lo, c :: rest => (∀ m, lo ≤ m → m < c.field → P m) ∧
      ((∀ m, m < c.field → P m) → (c.ok = true ↔ P c.field)) ∧ lo ≤ c.field ∧ Judged P (c.field + 1) rest

theorem Judged.check {P : Nat → Prop} {lo : Nat} {ok : Bool} {rest : List FieldCheck}
    (h : (∀ m, m < lo → P m) → (ok = true ↔ P lo)) (hrest : Judged P (lo + 1) rest) : Judged P lo (⟨lo, ok⟩ :: rest) :=
  ⟨fun _ hm hlt => absurd hlt (not_lt.mpr hm), h, le_rfl, hrest⟩

theorem Judged.skip {P : Nat → Prop} {lo : Nat} {l : List FieldCheck} (h : P lo) (hl : Judged P (lo + 1) l) :
    Judged P lo l := by
  have hgap : ∀ (m : Nat), lo ≤ m → (lo + 1 ≤ m → P m) → P m := fun m hm hP => by
    obtain rfl | hlt := Nat.eq_or_lt_of_le hm
    exacts [h, hP hlt]
  cases l with
  | nil => exact fun m hm => hgap m hm (hl m)
  | cons c rest =>
    obtain ⟨hbefore, hcheck, hfield, hrest⟩ := hl
    exact ⟨fun m hm hlt => hgap m hm fun hm' => hbefore m hm' hlt, hcheck, by omega, hrest⟩

/-- The first failure of checks that judge a predicate is its least exception. -/
theorem firstFailure_judged {P : Nat → Prop} (l : List FieldCheck) (lo : Nat) (hlo : ∀ m, m < lo → P m) (h : Judged P lo l) :
    (firstFailure l = none ↔ ∀ m, P m) ∧ ∀ n, (firstFailure l = some n ↔ ¬ P n ∧ ∀ m, m < n → P m) := by
  induction l generalizing lo with
  | nil =>
    have hall : ∀ m, P m := fun m => (lt_or_ge m lo).elim (hlo m) (h m)
    simp [firstFailure, hall]
  | cons c rest ih =>
    obtain ⟨hgap, hcheck, _, hrest⟩ := h
    have hbefore : ∀ m, m < c.field → P m := fun m hm => (lt_or_ge m lo).elim (hlo m) (hgap m · hm)
    specialize hcheck hbefore
    by_cases hc : c.ok = true
    · rw [firstFailure, if_pos hc]
      refine ih (c.field + 1) (fun m hm => ?_) hrest
      obtain hm | rfl := Nat.lt_succ_iff_lt_or_eq.mp hm
      exacts [hbefore m hm, hcheck.mp hc]
    · have hbad : ¬ P c.field := mt hcheck.mpr hc
      rw [firstFailure, if_neg hc]
      refine ⟨by simpa using ⟨c.field, hbad⟩, fun n => ⟨fun hn => ?_, fun ⟨hn, hlt⟩ => ?_⟩⟩
      · obtain rfl : c.field = n := by simpa using hn
        exact ⟨hbad, hbefore⟩
      · obtain hm | rfl | hm := lt_trichotomy n c.field
        · exact absurd (hbefore n hm) hn
        · rfl
        · exact absurd (hlt c.field hm) hbad

theorem firstStepFailure_eq_none_iff (i : Nat) (l : List (List FieldCheck)) :
    firstStepFailure i l = none ↔ ∀ checks ∈ l, firstFailure checks = none := by
  induction l generalizing i with
  | nil => simp [firstStepFailure]
  | cons checks l ih =>
    unfold firstStepFailure
    cases h : firstFailure checks <;> simp [h, ih]

/-- The first step that fails, with its first failing field. -/
theorem firstStepFailure_eq_some_iff (i : Nat) (l : List (List FieldCheck)) (part field : Nat) :
    firstStepFailure i l = some (part, field) ↔ ∃ j checks, part = i + j ∧ l[j]? = some checks ∧
      firstFailure checks = some field ∧
      ∀ (j' : Nat) (before : List FieldCheck), j' < j → l[j']? = some before → firstFailure before = none := by
  induction l generalizing i with
  | nil => simp [firstStepFailure]
  | cons checks l ih =>
    unfold firstStepFailure
    cases h : firstFailure checks with
    | some f =>
      constructor
      · intro hs
        obtain ⟨rfl, rfl⟩ : i = part ∧ f = field := by simpa using hs
        exact ⟨0, checks, rfl, rfl, h, by simp⟩
      · rintro ⟨j, found, rfl, hj, hf, hbefore⟩
        cases j with
        | zero => simp_all
        | succ j => simpa [h] using hbefore 0 checks (by omega) rfl
    | none =>
      dsimp only
      rw [ih]
      constructor
      · rintro ⟨j, found, rfl, hj, hf, hbefore⟩
        refine ⟨j + 1, found, by omega, hj, hf, fun j' before hlt hget => ?_⟩
        cases j' with
        | zero => simp_all
        | succ j' => exact hbefore j' before (by omega) hget
      · rintro ⟨j, found, rfl, hj, hf, hbefore⟩
        cases j with
        | zero => simp_all
        | succ j => exact ⟨j, found, by omega, hj, hf, fun j' before hlt hget => hbefore (j' + 1) before (by omega) hget⟩

/-! ### The fields of a staged copy (sections 7.2 and 7.3) -/

theorem absentOr_iff {α : Type} (check : α → Bool) (o : Option α) :
    absentOr check o = true ↔ ∀ v, o = some v → check v = true := by
  cases o <;> simp [absentOr]

theorem textValid_iff (size : Nat) (t : List Byte) : textValid size t = true ↔
    t.length ≤ size ∧ ∀ b ∈ t, 0x20 ≤ b.toNat ∧ b.toNat ≤ 0x7E := by
  simp [textValid]

theorem planOf_isSome_iff (b : Byte) : (planOf b).isSome = true ↔ b.toNat ≤ 1 := by
  unfold planOf
  split <;> simp_all
  omega

theorem stepModeOf_isSome_iff (b : Byte) : (stepModeOf b).isSome = true ↔ b.toNat ≤ 3 := by
  unfold stepModeOf
  split <;> simp_all
  omega

theorem baseOf_isSome_iff (b : Byte) : (baseOf b).isSome = true ↔ b.toNat ∈ [1, 2, 4, 8, 16, 32, 64] := by
  unfold baseOf
  split <;> simp_all

/-- The range of a spec field by its number (section 7.2). -/
def StagedSpec.fieldGood (overload : Int) (f : StagedSpec) : Nat → Prop
  | 1 => 1 ≤ f.s0.toInt ∧ f.s0.toInt ≤ 10000000
  | 2 => 10000 ≤ f.l0.toInt ∧ f.l0.toInt ≤ 200000
  | 3 => 10000 ≤ f.lc.toInt ∧ f.lc.toInt ≤ 2000000
  | 4 => 50000 ≤ f.eNominal.toInt ∧ f.eNominal.toInt ≤ 400000
  | 5 => f.specimen.length ≤ 16 ∧ ∀ b ∈ f.specimen, 0x20 ≤ b.toNat ∧ b.toNat ≤ 0x7E
  | 6 => f.cast.length ≤ 12 ∧ ∀ b ∈ f.cast, 0x20 ≤ b.toNat ∧ b.toNat ≤ 0x7E
  | 7 => f.plan.toNat ≤ 1
  | 8 => 0 ≤ f.fitLower.toInt ∧ f.fitLower.toInt ≤ 1999999
  | 9 => (1 ≤ f.fitUpper.toInt ∧ f.fitUpper.toInt ≤ 2000000) ∧ f.fitLower.toInt < f.fitUpper.toInt
  | 10 => ∀ v, f.offset = some v → (100 : Int) ≤ v.toNat ∧ (v.toNat : Int) ≤ 20000
  | 11 => ∀ v, f.yieldDrop = some v → (10 : Int) ≤ v.toNat ∧ (v.toNat : Int) ≤ 1000
  | 12 => ∀ v, f.transient = some v → (0 : Int) ≤ v.toNat ∧ (v.toNat : Int) ≤ 1000
  | 13 => ∀ v, f.yieldLimit = some v → 1000 ≤ v.toInt ∧ v.toInt ≤ 100000
  | 14 => ∀ v, f.yieldEnd = some v → 1000 ≤ v.toInt ∧ v.toInt ≤ 200000
  | 15 => 1 ≤ f.armLoad.toInt ∧ f.armLoad.toInt ≤ 8000000
  | 16 => ∀ v, f.breakStep = some v → (1 : Int) ≤ v.toNat ∧ (v.toNat : Int) ≤ 90
  | 17 => ∀ v, f.breakFloor = some v → (1 : Int) ≤ v.toNat ∧ (v.toNat : Int) ≤ 90
  | 18 => ∀ v, f.testOverload = some v → 1 ≤ v.toInt ∧ v.toInt ≤ overload
  | 19 => f.returnAfter.toNat ≤ 1
  | 20 => 1 ≤ f.returnSpeed.toInt ∧ f.returnSpeed.toInt ≤ 600000
  | 21 => f.traceBase.toNat ∈ [1, 2, 4, 8, 16, 32, 64]
  | 22 => (1 : Int) ≤ f.stepCount.toNat ∧ (f.stepCount.toNat : Int) ≤ 12
  | _ => True

/-- One of the seven end quantities (R130). -/
def quantityGood (q : Byte) : Prop := 1 ≤ q.toNat ∧ q.toNat ≤ 7

/-- The threshold range of a quantity (R130). -/
def thresholdGood (q : Byte) (t : Word) : Prop :=
  (q.toNat ≤ 2 → -2000000 ≤ t.toInt ∧ t.toInt ≤ 2000000) ∧ (q.toNat = 3 → -8000000 ≤ t.toInt ∧ t.toInt ≤ 8000000) ∧
  (q.toNat = 7 → 1 ≤ t.toInt ∧ t.toInt ≤ 99)

/-- The range of a step field by its number (section 7.3). -/
def StagedStep.fieldGood (k : StagedStep) : Nat → Prop
  | 0 => k.written = true
  | 1 => k.record.mode.toNat ≤ 3
  | 2 => (k.record.mode.toNat = 0 → 1 ≤ k.record.rate.toInt ∧ k.record.rate.toInt ≤ 600000) ∧
      (k.record.mode.toNat = 1 → 1 ≤ k.record.rate.toInt ∧ k.record.rate.toInt ≤ 100000) ∧
      (k.record.mode.toNat = 2 → 1 ≤ k.record.rate.toInt ∧ k.record.rate.toInt ≤ 500000)
  | 3 => k.record.transition.toNat ≤ 5000
  | 5 => 1 ≤ k.record.count.toNat → quantityGood k.record.quantity1
  | 6 => 1 ≤ k.record.count.toNat → thresholdGood k.record.quantity1 k.record.threshold1
  | 7 => 2 ≤ k.record.count.toNat → quantityGood k.record.quantity2
  | 8 => 2 ≤ k.record.count.toNat → thresholdGood k.record.quantity2 k.record.threshold2
  | 9 => k.record.release.toNat ≤ 1
  | _ => True

theorem absentOr_inRange {α : Type} (lo hi : Int) (value : α → Int) (o : Option α) :
    absentOr (fun v => inRange lo hi (value v)) o = true ↔ ∀ v, o = some v → lo ≤ value v ∧ value v ≤ hi := by
  simp only [absentOr_iff, inRange_iff]

theorem judged_specChecks (overload : Int) (f : StagedSpec) : Judged (f.fieldGood overload) 0 (f.checks overload) := by
  refine .skip trivial ?_
  refine .check (fun _ => inRange_iff _ _ _) ?_
  refine .check (fun _ => inRange_iff _ _ _) ?_
  refine .check (fun _ => inRange_iff _ _ _) ?_
  refine .check (fun _ => inRange_iff _ _ _) ?_
  refine .check (fun _ => textValid_iff _ _) ?_
  refine .check (fun _ => textValid_iff _ _) ?_
  refine .check (fun _ => planOf_isSome_iff _) ?_
  refine .check (fun _ => inRange_iff _ _ _) ?_
  refine .check (fun _ => by
    rw [Bool.and_eq_true, inRange_iff, decide_eq_true_eq]
    rfl) ?_
  refine .check (fun _ => absentOr_inRange _ _ _ _) ?_
  refine .check (fun _ => absentOr_inRange _ _ _ _) ?_
  refine .check (fun _ => absentOr_inRange _ _ _ _) ?_
  refine .check (fun _ => absentOr_inRange _ _ _ _) ?_
  refine .check (fun _ => absentOr_inRange _ _ _ _) ?_
  refine .check (fun _ => inRange_iff _ _ _) ?_
  refine .check (fun _ => absentOr_inRange _ _ _ _) ?_
  refine .check (fun _ => absentOr_inRange _ _ _ _) ?_
  refine .check (fun _ => absentOr_inRange _ _ _ _) ?_
  refine .check (fun _ => flagOf_isSome_iff _) ?_
  refine .check (fun _ => inRange_iff _ _ _) ?_
  refine .check (fun _ => baseOf_isSome_iff _) ?_
  refine .check (fun _ => inRange_iff _ _ _) ?_
  intro m hm
  obtain ⟨k, rfl⟩ := Nat.exists_eq_add_of_le' hm
  trivial

theorem rateValid_iff {mode : Byte} (h : mode.toNat ≤ 3) (rate : Int) : rateValid mode rate = true ↔
    (mode.toNat = 0 → 1 ≤ rate ∧ rate ≤ 600000) ∧ (mode.toNat = 1 → 1 ≤ rate ∧ rate ≤ 100000) ∧
    (mode.toNat = 2 → 1 ≤ rate ∧ rate ≤ 500000) := by
  unfold rateValid stepModeOf
  obtain h | h | h | h : mode.toNat = 0 ∨ mode.toNat = 1 ∨ mode.toNat = 2 ∨ mode.toNat = 3 := by omega
  all_goals simp [h, inRange_iff]

theorem thresholdValid_iff {q : Byte} (h : quantityGood q) (t : Word) : thresholdValid q t = true ↔ thresholdGood q t := by
  obtain ⟨hlo, hhi⟩ := h
  unfold thresholdValid thresholdGood
  obtain h | h | h | h | h | h | h : q.toNat = 1 ∨ q.toNat = 2 ∨ q.toNat = 3 ∨ q.toNat = 4 ∨ q.toNat = 5 ∨ q.toNat = 6 ∨
      q.toNat = 7 := by omega
  all_goals simp [h, inRange_iff, stressLimit, loadLimit]

theorem quantityValid_iff (q : Byte) : quantityValid q = true ↔ quantityGood q := by
  simp [quantityValid, quantityGood]

/-- A check that a condition beyond the count passes (R130). -/
theorem beyondCount_iff {count n : Nat} {ok : Bool} {P : Prop} (h : n ≤ count → (ok = true ↔ P)) :
    (decide (count < n) || ok) = true ↔ (n ≤ count → P) := by
  rw [Bool.or_eq_true, decide_eq_true_eq]
  by_cases hn : n ≤ count
  · simp [hn, h hn, not_lt.mpr hn]
  · simp [hn, not_le.mp hn]

theorem judged_stepChecks (k : StagedStep) : Judged k.fieldGood 0 k.checks := by
  refine .check (fun _ => Iff.rfl) ?_
  refine .check (fun _ => stepModeOf_isSome_iff _) ?_
  refine .check (fun h => rateValid_iff (h 1 (by omega)) _) ?_
  refine .check (fun _ => decide_eq_true_iff) ?_
  refine .skip trivial ?_
  refine .check (fun _ => beyondCount_iff fun _ => quantityValid_iff _) ?_
  refine .check (fun h => beyondCount_iff fun hn => thresholdValid_iff (h 5 (by omega) hn) _) ?_
  refine .check (fun _ => beyondCount_iff fun _ => quantityValid_iff _) ?_
  refine .check (fun h => beyondCount_iff fun hn => thresholdValid_iff (h 7 (by omega) hn) _) ?_
  refine .check (fun _ => flagOf_isSome_iff _) ?_
  intro m hm
  obtain ⟨j, rfl⟩ := Nat.exists_eq_add_of_le' hm
  trivial

/-! ### Validation (R134) -/

theorem validate_eq_none_iff (c : StagedCopy) (f : StagedSpec) (overload : Int) : c.validate overload f = none ↔
    (∀ m, f.fieldGood overload m) ∧ ∀ k ∈ c.slots.toList.take f.stepCount.toNat, ∀ m, k.fieldGood m := by
  obtain ⟨hspec, _⟩ := firstFailure_judged _ 0 (by simp) (judged_specChecks overload f)
  have hstep : ∀ k : StagedStep, firstFailure k.checks = none ↔ ∀ m, k.fieldGood m := fun k =>
    (firstFailure_judged _ 0 (by simp) (judged_stepChecks k)).1
  unfold StagedCopy.validate
  rw [← hspec]
  cases hf : firstFailure (f.checks overload) with
  | some n => simp
  | none => simp only [firstStepFailure_eq_none_iff, List.forall_mem_map, hstep, StagedCopy.taken, true_and]

theorem taken_getElem? (c : StagedCopy) (n i : Nat) (k : StagedStep) :
    (c.taken n)[i]? = some k ↔ i < n ∧ c.slots.toList[i]? = some k := by
  rw [StagedCopy.taken, List.getElem?_take]
  split <;> simp_all

theorem validate_eq_some_iff (c : StagedCopy) (f : StagedSpec) (overload : Int) (part field : Nat) :
    c.validate overload f = some (part, field) ↔
      (part = 255 ∧ ¬ f.fieldGood overload field ∧ ∀ m, m < field → f.fieldGood overload m) ∨
      ((∀ m, f.fieldGood overload m) ∧ part < f.stepCount.toNat ∧ ∃ k, c.slots.toList[part]? = some k ∧
        ¬ k.fieldGood field ∧ (∀ m, m < field → k.fieldGood m) ∧
        ∀ (i : Nat) (before : StagedStep), i < part → c.slots.toList[i]? = some before → ∀ m, before.fieldGood m) := by
  obtain ⟨hnone, hsome⟩ := firstFailure_judged _ 0 (by simp) (judged_specChecks overload f)
  have hstep := fun k : StagedStep => firstFailure_judged _ 0 (by simp) (judged_stepChecks k)
  unfold StagedCopy.validate
  cases hf : firstFailure (f.checks overload) with
  | some n =>
    have hbad : ¬ ∀ m, f.fieldGood overload m := by
      rw [← hnone, hf]
      simp
    rw [← hsome, hf]
    simp [hbad, specPart, eq_comm]
  | none =>
    have hgood : ∀ m, f.fieldGood overload m := hnone.mp hf
    dsimp only
    rw [firstStepFailure_eq_some_iff]
    simp only [hgood, not_true_eq_false, false_and, and_false, false_or, implies_true, true_and]
    constructor
    · rintro ⟨j, checks, hj, hget, hfail, hbefore⟩
      obtain rfl : part = j := by omega
      obtain ⟨k, hk, rfl⟩ : ∃ k, (c.taken f.stepCount.toNat)[part]? = some k ∧ k.checks = checks := by
        simpa using hget
      obtain ⟨hlt, hslot⟩ := (taken_getElem? c _ part k).mp hk
      obtain ⟨hbad, hfields⟩ := ((hstep k).2 field).mp hfail
      refine ⟨hlt, k, hslot, hbad, hfields, fun i before hi hget => (hstep before).1.mp (hbefore i _ hi ?_)⟩
      rw [List.getElem?_map, (taken_getElem? c _ i before).mpr ⟨by omega, hget⟩]
      rfl
    · rintro ⟨hlt, k, hslot, hbad, hfields, hbefore⟩
      refine ⟨part, k.checks, by omega, ?_, ((hstep k).2 field).mpr ⟨hbad, hfields⟩, fun i checks hi hget => ?_⟩
      · rw [List.getElem?_map, (taken_getElem? c _ part k).mpr ⟨hlt, hslot⟩]
        rfl
      · obtain ⟨before, hb, rfl⟩ : ∃ k, (c.taken f.stepCount.toNat)[i]? = some k ∧ k.checks = checks := by
          simpa using hget
        exact (hstep before).1.mpr (hbefore i before hi ((taken_getElem? c _ i before).mp hb).2)

/-- All fields of a spec part are good exactly when the numbered ones are (section 7.2). -/
theorem spec_fieldGood_iff (overload : Int) (f : StagedSpec) : (∀ m, f.fieldGood overload m) ↔
    ∀ m, m < 23 → f.fieldGood overload m := by
  refine ⟨fun h m _ => h m, fun h m => ?_⟩
  by_cases hm : m < 23
  · exact h m hm
  · obtain ⟨k, rfl⟩ := Nat.exists_eq_add_of_le' (not_lt.mp hm)
    trivial

/-- All fields of a step slot are good exactly when it is written and in the ranges of section 7.3. -/
theorem step_fieldGood_iff (k : StagedStep) : (∀ m, k.fieldGood m) ↔
    k.fieldGood 0 ∧ k.fieldGood 1 ∧ k.fieldGood 2 ∧ k.fieldGood 3 ∧
    (1 ≤ k.record.count.toNat → quantityGood k.record.quantity1 ∧ thresholdGood k.record.quantity1 k.record.threshold1) ∧
    (2 ≤ k.record.count.toNat → quantityGood k.record.quantity2 ∧ thresholdGood k.record.quantity2 k.record.threshold2) ∧
    k.fieldGood 9 := by
  refine ⟨fun h => ⟨h 0, h 1, h 2, h 3, fun hn => ⟨h 5 hn, h 6 hn⟩, fun hn => ⟨h 7 hn, h 8 hn⟩, h 9⟩, ?_⟩
  rintro ⟨h0, h1, h2, h3, hfirst, hsecond, h9⟩ m
  by_cases hm : m < 10
  · interval_cases m
    exacts [h0, h1, h2, h3, trivial, fun hn => (hfirst hn).1, fun hn => (hfirst hn).2, fun hn => (hsecond hn).1,
      fun hn => (hsecond hn).2, h9]
  · obtain ⟨j, rfl⟩ := Nat.exists_eq_add_of_le' (not_lt.mp hm)
    trivial

/-! ### Forming (R128, R129, R133) -/

theorem byte_eq_iff (b : Byte) (n : Nat) (h : n < 256) : b = BitVec.ofNat 8 n ↔ b.toNat = n := by
  rw [← BitVec.toNat_inj, BitVec.toNat_ofNat, Nat.mod_eq_of_lt h]

theorem planOf_eq {b : Byte} (h : b.toNat ≤ 1) : (planOf b).getD .ext = if b = 0 then .ext else .xhead := by
  have hzero : b = 0 ↔ b.toNat = 0 := byte_eq_iff b 0 (by omega)
  unfold planOf
  simp only [hzero]
  obtain h | h : b.toNat = 0 ∨ b.toNat = 1 := by omega
  all_goals simp [h]

theorem stepModeOf_eq {b : Byte} (h : b.toNat ≤ 3) : (stepModeOf b).getD .hold =
    if b = 0 then .posRate else if b = 1 then .strainRate else if b = 2 then .stressRate else .hold := by
  have hzero : b = 0 ↔ b.toNat = 0 := byte_eq_iff b 0 (by omega)
  have hone : b = 1 ↔ b.toNat = 1 := byte_eq_iff b 1 (by omega)
  have htwo : b = 2 ↔ b.toNat = 2 := byte_eq_iff b 2 (by omega)
  unfold stepModeOf
  simp only [hzero, hone, htwo]
  obtain h | h | h | h : b.toNat = 0 ∨ b.toNat = 1 ∨ b.toNat = 2 ∨ b.toNat = 3 := by omega
  all_goals simp [h]

theorem flag_eq (b : Byte) : (flagOf b).getD false = decide (b = 1) := by
  rw [flagOf_getD, Bool.eq_iff_iff, beq_iff_eq, decide_eq_true_iff]
  exact (byte_eq_iff b 1 (by omega)).symm

/-- Settles O47: the checks judge the ranges of the fields (`judged_specChecks`, `judged_stepChecks`). -/
theorem validationAndForming : Obligations.ValidationAndForming := by
  refine ⟨fun c f overload => ?_, fun c f overload part field => ?_, fun c f overload h => ?_⟩
  · intro within text halfIn wordIn byteIn specGood conditionGood stepGood
    have hspec : (∀ m, f.fieldGood overload m) ↔ specGood := by
      constructor
      · intro h
        exact ⟨
          h 1, h 2, h 3, h 4, h 5, h 6, h 7, h 8, (h 9).1, (h 9).2, h 10, h 11, h 12, h 13, h 14, h 15, h 16, h 17,
          h 18, h 19, h 20, h 21, h 22⟩
      · rintro ⟨
          h1, h2, h3, h4, h5, h6, h7, h8, h9, h9', h10, h11, h12, h13, h14, h15, h16, h17, h18, h19, h20, h21, h22⟩
        refine (spec_fieldGood_iff overload f).mpr fun m hm => ?_
        interval_cases m
        exacts [
          trivial, h1, h2, h3, h4, h5, h6, h7, h8, ⟨h9, h9'⟩, h10, h11, h12, h13, h14, h15, h16, h17, h18, h19, h20,
          h21, h22]
    have hstep : ∀ k : StagedStep, (∀ m, k.fieldGood m) ↔ stepGood k := by
      intro k
      rw [step_fieldGood_iff]
      constructor
      · rintro ⟨h0, h1, ⟨hpos, hstrain, hstress⟩, h3, hfirst, hsecond, h9⟩
        exact ⟨h0, h1, hpos, hstrain, hstress, h3, fun hn => and_assoc.mp (hfirst hn), fun hn => and_assoc.mp (hsecond hn), h9⟩
      · rintro ⟨h0, h1, hpos, hstrain, hstress, h3, hfirst, hsecond, h9⟩
        exact ⟨h0, h1, ⟨hpos, hstrain, hstress⟩, h3, fun hn => and_assoc.mpr (hfirst hn), fun hn => and_assoc.mpr (hsecond hn),
          h9⟩
    rw [validate_eq_none_iff, hspec]
    simp only [hstep]
  · intro within text halfIn wordIn byteIn specGood quantityGood' thresholdGood' stepGood
    have hspec : ∀ m, f.fieldGood overload m ↔ specGood m := by
      intro m
      by_cases hm : m < 23
      · interval_cases m <;> exact Iff.rfl
      · obtain ⟨k, rfl⟩ := Nat.exists_eq_add_of_le' (not_lt.mp hm)
        exact Iff.rfl
    have hstep : ∀ (k : StagedStep) (m : Nat), k.fieldGood m ↔ stepGood k m := by
      intro k m
      by_cases hm : m < 10
      · interval_cases m <;> exact Iff.rfl
      · obtain ⟨k, rfl⟩ := Nat.exists_eq_add_of_le' (not_lt.mp hm)
        exact Iff.rfl
    rw [validate_eq_some_iff]
    simp only [hspec, hstep]
  · intro halfOr wordOr byteOr mode
    obtain ⟨hspec, hsteps⟩ := (validate_eq_none_iff c f overload).mp h
    unfold StagedCopy.form StagedSpec.resolve
    have hresolve : ∀ k ∈ c.taken f.stepCount.toNat, resolveStep k.record =
        { mode := mode k.record, rate := if mode k.record = .hold then 0 else k.record.rate.toInt,
          transition := k.record.transition.toNat, count := k.record.count.toNat,
          cond1 := ⟨k.record.quantity1, k.record.threshold1⟩, cond2 := ⟨k.record.quantity2, k.record.threshold2⟩,
          release := decide (k.record.release = 1) } := by
      intro k hk
      unfold resolveStep
      simp only [stepModeOf_eq (hsteps k hk 1), flag_eq]
      rfl
    rw [List.map_congr_left hresolve]
    have hhalf : ∀ (d : Int) (o : Option Half), (o.map fun v => (v.toNat : Int)).getD d = halfOr d o := by
      intro d o
      cases o <;> rfl
    have hword : ∀ (d : Int) (o : Option Word), (o.map fun v => v.toInt).getD d = wordOr d o := by
      intro d o
      cases o <;> rfl
    have hbyte : ∀ (d : Int) (o : Option Byte), (o.map fun v => (v.toNat : Int)).getD d = byteOr d o := by
      intro d o
      cases o <;> rfl
    simp only [hhalf, hword, hbyte, planOf_eq (hspec 7), flag_eq]
    rfl

/-! ### The locked part (R137) -/

/-- A spec field of two copies is the same, by its number. -/
def ProfileSpec.fieldSame (new old : ProfileSpec) : Nat → Prop
  | 1 => new.s0 = old.s0
  | 2 => new.l0 = old.l0
  | 3 => new.lc = old.lc
  | 4 => new.eNominal = old.eNominal
  | 5 => new.specimen = old.specimen
  | 6 => new.cast = old.cast
  | 7 => new.plan = old.plan
  | 8 => new.fitLower = old.fitLower
  | 9 => new.fitUpper = old.fitUpper
  | 10 => new.offset = old.offset
  | 11 => new.yieldDrop = old.yieldDrop
  | 12 => new.transient = old.transient
  | 13 => new.yieldLimit = old.yieldLimit
  | 14 => new.yieldEnd = old.yieldEnd
  | 15 => new.armLoad = old.armLoad
  | 16 => new.breakStep = old.breakStep
  | 17 => new.breakFloor = old.breakFloor
  | 18 => new.testOverload = old.testOverload
  | 19 => new.returnAfter = old.returnAfter
  | 20 => new.returnSpeed = old.returnSpeed
  | 21 => new.traceBase = old.traceBase
  | _ => True

/-- A field of two steps is the same, by its number. -/
def ProfileStep.fieldSame (new old : ProfileStep) : Nat → Prop
  | 1 => new.mode = old.mode
  | 2 => new.rate = old.rate
  | 3 => new.transition = old.transition
  | 4 => new.count = old.count
  | 5 => new.cond1.quantity = old.cond1.quantity
  | 6 => new.cond1.threshold = old.cond1.threshold
  | 7 => new.cond2.quantity = old.cond2.quantity
  | 8 => new.cond2.threshold = old.cond2.threshold
  | 9 => new.release = old.release
  | _ => True

theorem judged_specSame (new old : ProfileSpec) : Judged (new.fieldSame old) 0 (new.sameChecks old) := by
  refine .skip trivial ?_
  iterate 21 refine .check (fun _ => beq_iff_eq) ?_
  intro m hm
  obtain ⟨k, rfl⟩ := Nat.exists_eq_add_of_le' hm
  trivial

theorem judged_stepSame (new old : ProfileStep) : Judged (new.fieldSame old) 0 (new.sameChecks old) := by
  refine .skip trivial ?_
  iterate 9 refine .check (fun _ => beq_iff_eq) ?_
  intro m hm
  obtain ⟨k, rfl⟩ := Nat.exists_eq_add_of_le' hm
  trivial

theorem spec_fieldSame_iff (new old : ProfileSpec) : (∀ m, new.fieldSame old m) ↔ new = old := by
  constructor
  · intro h
    cases new
    cases old
    rw [ProfileSpec.mk.injEq]
    exact ⟨h 1, h 2, h 3, h 4, h 5, h 6, h 7, h 8, h 9, h 10, h 11, h 12, h 13, h 14, h 15, h 16, h 17, h 18, h 19, h 20, h 21⟩
  · rintro rfl m
    by_cases hm : m < 22
    · interval_cases m <;> trivial
    · obtain ⟨k, rfl⟩ := Nat.exists_eq_add_of_le' (not_lt.mp hm)
      trivial

theorem step_fieldSame_iff (new old : ProfileStep) : (∀ m, new.fieldSame old m) ↔ new = old := by
  constructor
  · intro h
    obtain ⟨_, _, _, _, ⟨_, _⟩, ⟨_, _⟩, _⟩ := new
    obtain ⟨_, _, _, _, ⟨_, _⟩, ⟨_, _⟩, _⟩ := old
    simp only [ProfileStep.mk.injEq, EndCondition.mk.injEq]
    exact ⟨h 1, h 2, h 3, h 4, ⟨h 5, h 6⟩, ⟨h 7, h 8⟩, h 9⟩
  · rintro rfl m
    by_cases hm : m < 10
    · interval_cases m <;> trivial
    · obtain ⟨k, rfl⟩ := Nat.exists_eq_add_of_le' (not_lt.mp hm)
      trivial

/-- The pairs of steps up to the current one. -/
theorem lockedSteps_getElem? (new old : List ProfileStep) (n i : Nat) (checks : List FieldCheck) :
    (List.zipWith ProfileStep.sameChecks (new.take n) (old.take n))[i]? = some checks ↔
      i < n ∧ ∃ a b, new[i]? = some a ∧ old[i]? = some b ∧ a.sameChecks b = checks := by
  rw [List.getElem?_zipWith_eq_some, List.getElem?_take, List.getElem?_take]
  by_cases hi : i < n <;> simp [hi]

/-- Two lists that are long enough begin alike exactly when their entries do. -/
theorem take_eq_iff (new old : List ProfileStep) (n : Nat) (hnew : n ≤ new.length) (hold : n ≤ old.length) :
    new.take n = old.take n ↔ ∀ (i : Nat) (a b : ProfileStep), i < n → new[i]? = some a → old[i]? = some b → a = b := by
  constructor
  · intro h i a b hi ha hb
    have hget := congrArg (fun l => l[i]?) h
    simp only [List.getElem?_take, hi, if_true, ha, hb, Option.some.injEq] at hget
    exact hget
  · intro h
    refine List.ext_getElem (by simp [hnew, hold]) fun i h1 h2 => ?_
    rw [List.length_take] at h1 h2
    rw [List.getElem_take, List.getElem_take]
    exact h i _ _ (by omega) (List.getElem?_eq_getElem (by omega)) (List.getElem?_eq_getElem (by omega))

/-- The locked part is unchanged (R137). -/
def Profile.keeps (new old : Profile) (k : Nat) : Prop :=
  new.spec = old.spec ∧ k < new.steps.length ∧ new.steps.take (k + 1) = old.steps.take (k + 1)

/-- The first difference of two profiles in the locked part, as a part and a field (R137). -/
def Profile.firstDifference (new old : Profile) (k part field : Nat) : Prop :=
  (part = 255 ∧ ¬ new.spec.fieldSame old.spec field ∧ ∀ m, m < field → new.spec.fieldSame old.spec m) ∨
  (new.spec = old.spec ∧ new.steps.length < k + 1 ∧ part = 255 ∧ field = 22) ∨
  (new.spec = old.spec ∧ k + 1 ≤ new.steps.length ∧ part ≤ k ∧ new.steps.take part = old.steps.take part ∧
    ∃ a b, new.steps[part]? = some a ∧ old.steps[part]? = some b ∧ ¬ a.fieldSame b field ∧
      ∀ m, m < field → a.fieldSame b m)

theorem stepSame_none_iff (a b : ProfileStep) : firstFailure (a.sameChecks b) = none ↔ a = b :=
  (firstFailure_judged _ 0 (by simp) (judged_stepSame a b)).1.trans (step_fieldSame_iff a b)

theorem lockedDifference_eq_none_iff (new old : Profile) (k : Nat) (hk : k < old.steps.length) :
    new.lockedDifference old k = none ↔ new.keeps old k := by
  have hspec := (firstFailure_judged _ 0 (by simp) (judged_specSame new.spec old.spec)).1.trans
    (spec_fieldSame_iff new.spec old.spec)
  unfold Profile.lockedDifference Profile.keeps
  rw [← hspec]
  cases hf : firstFailure (new.spec.sameChecks old.spec) with
  | some n => simp
  | none =>
    by_cases hlen : new.steps.length < k + 1
    · simp [hlen]
      omega
    · rw [take_eq_iff _ _ _ (by omega) hk]
      simp only [hlen, if_false, firstStepFailure_eq_none_iff, true_and]
      constructor
      · intro h
        refine ⟨by omega, fun i a b hi ha hb => ?_⟩
        have hget := (lockedSteps_getElem? new.steps old.steps (k + 1) i _).mpr ⟨hi, a, b, ha, hb, rfl⟩
        exact (stepSame_none_iff a b).mp (h _ (List.mem_of_getElem? hget))
      · rintro ⟨_, h⟩ checks hmem
        obtain ⟨i, hi⟩ := List.getElem?_of_mem hmem
        obtain ⟨hlt, a, b, ha, hb, rfl⟩ := (lockedSteps_getElem? _ _ _ _ _).mp hi
        exact (stepSame_none_iff a b).mpr (h i a b hlt ha hb)

theorem lockedDifference_eq_some_iff (new old : Profile) (k part field : Nat) (hk : k < old.steps.length) :
    new.lockedDifference old k = some (part, field) ↔ new.firstDifference old k part field := by
  obtain ⟨hnone, hsome⟩ := firstFailure_judged _ 0 (by simp) (judged_specSame new.spec old.spec)
  have hspec := hnone.trans (spec_fieldSame_iff new.spec old.spec)
  unfold Profile.lockedDifference Profile.firstDifference
  rw [← hspec, ← hsome]
  cases hf : firstFailure (new.spec.sameChecks old.spec) with
  | some n => simp [specPart, eq_comm]
  | none =>
    by_cases hlen : new.steps.length < k + 1
    · have hshort : ¬ k + 1 ≤ new.steps.length := by omega
      simp [hlen, hshort, specPart, eq_comm]
    · have hlong : k + 1 ≤ new.steps.length := by omega
      simp only [hlen, hlong, if_false, firstStepFailure_eq_some_iff, true_and, false_and, and_false, false_or, reduceCtorEq]
      constructor
      · rintro ⟨j, checks, hj, hget, hfail, hbefore⟩
        obtain rfl : part = j := by omega
        obtain ⟨hlt, a, b, ha, hb, rfl⟩ := (lockedSteps_getElem? _ _ _ _ _).mp hget
        obtain ⟨hbad, hfields⟩ := ((firstFailure_judged _ 0 (by simp) (judged_stepSame a b)).2 field).mp hfail
        refine ⟨by omega, (take_eq_iff _ _ _ (by omega) (by omega)).mpr fun i a' b' hi ha' hb' => ?_, a, b, ha, hb, hbad, hfields⟩
        exact (stepSame_none_iff a' b').mp
          (hbefore i _ hi ((lockedSteps_getElem? _ _ _ _ _).mpr ⟨by omega, a', b', ha', hb', rfl⟩))
      · rintro ⟨hle, htake, a, b, ha, hb, hbad, hfields⟩
        refine ⟨part, a.sameChecks b, by omega, (lockedSteps_getElem? _ _ _ _ _).mpr ⟨by omega, a, b, ha, hb, rfl⟩,
          ((firstFailure_judged _ 0 (by simp) (judged_stepSame a b)).2 field).mpr ⟨hbad, hfields⟩, fun i checks hi hget => ?_⟩
        obtain ⟨_, a', b', ha', hb', rfl⟩ := (lockedSteps_getElem? _ _ _ _ _).mp hget
        exact (stepSame_none_iff a' b').mpr ((take_eq_iff _ _ _ (by omega) (by omega)).mp htake i a' b' hi ha' hb')

/-! ### PROFILE_COMMIT (R133, R136, R137) -/

theorem not_sampling_of_idle {s : State} (h : s.testing = false) : s.tsq.state ≠ .returning ∧ s.tsq.state.sampling = false := by
  unfold State.testing at h
  cases hs : s.tsq.state <;> simp_all [TestState.testing, TestState.sampling]

/-- A commit of a written spec part that passes validation. -/
theorem profileCommit_valid {s : State} {f : StagedSpec} (hr : s.tsq.state ≠ .returning) (hf : s.tsq.staged.spec = some f)
    (hv : s.tsq.staged.validate s.xhs.config.frameOverload f = none) : s.profileCommit =
      let p := s.tsq.staged.form s.xhs.config.frameOverload f
      if s.tsq.state.sampling then
        match s.lockedFault p with
        | some r => (s, .refuse .locked (fieldReference r.1 r.2))
        | none => (s.holdPending p, .ack [])
      else (s.applyNow p, .ack []) := by
  refine (if_neg hr).trans ?_
  rw [hf]
  unfold State.commitSpec
  dsimp only
  rw [hv] <;> rfl

/-- Settles O48: by the checks in order, and by the first difference of the locked part. -/
theorem profileCommitOutcomes : Obligations.ProfileCommitOutcomes := by
  intro s tag hfree overload refused specDiffers stepDiffers firstDifference
  have hspec : ∀ (new old : ProfileSpec) (m : Nat), ¬ new.fieldSame old m ↔ specDiffers new old m := by
    intro new old m
    by_cases hm : m < 22
    · interval_cases m
      · exact not_true
      all_goals exact Iff.rfl
    · obtain ⟨k, rfl⟩ := Nat.exists_eq_add_of_le' (not_lt.mp hm)
      exact not_true
  have hstep : ∀ (new old : ProfileStep) (m : Nat), ¬ new.fieldSame old m ↔ stepDiffers new old m := by
    intro new old m
    by_cases hm : m < 10
    · interval_cases m
      · exact not_true
      all_goals exact Iff.rfl
    · obtain ⟨k, rfl⟩ := Nat.exists_eq_add_of_le' (not_lt.mp hm)
      exact not_true
  have hfirst : ∀ (new old : Profile) (k part field : Nat),
      new.firstDifference old k part field ↔ firstDifference new old k part field := by
    intro new old k part field
    simp only [Profile.firstDifference, firstDifference, ← hspec, ← hstep, not_not]
  refine ⟨fun hr => ?_, fun hr hn => ?_, fun f part field hr hf hv => ?_, fun f hf hv => ?_⟩
  · exact exec_refused hfree .profileCommit tag rfl (if_pos hr)
  · refine exec_refused hfree .profileCommit tag rfl ((if_neg hr).trans ?_)
    rw [hn]
    rfl
  · refine exec_refused hfree .profileCommit tag rfl ((if_neg hr).trans ?_)
    rw [hf]
    unfold State.commitSpec
    dsimp only
    rw [show s.tsq.staged.validate s.xhs.config.frameOverload f = some (part, field) from hv]
    rfl
  · intro p
    refine ⟨fun ht => ?_, ?_⟩
    · obtain ⟨hr, hsample⟩ := not_sampling_of_idle ht
      exact exec_acked hfree .profileCommit tag rfl ((profileCommit_valid hr hf hv).trans (if_neg (by simp [hsample])))
    · intro old k hs ha hk hlt unchanged
      have hcommit : s.act .profileCommit = (match p.lockedDifference old k with
          | some r => (s, .refuse .locked (fieldReference r.1 r.2))
          | none => (s.holdPending p, .ack [])) := by
        refine (profileCommit_valid (fun hr => by simp [hr, TestState.sampling] at hs) hf hv).trans ((if_pos hs).trans ?_)
        simp only [State.lockedFault, ha, hk, Option.getD_some]
        rfl
      have hrefused : ∀ part field, firstDifference p old k part field →
          exec (.profileCommit tag) s = .next (refused .locked part field) := by
        intro part field hd
        refine exec_refused hfree .profileCommit tag rfl (hcommit.trans ?_)
        rw [(lockedDifference_eq_some_iff p old k part field hlt).mpr ((hfirst _ _ _ _ _).mpr hd)]
        rfl
      refine ⟨fun hu => ?_, fun hu => ?_, hrefused⟩
      · refine exec_acked hfree .profileCommit tag rfl (hcommit.trans ?_)
        rw [(lockedDifference_eq_none_iff p old k hlt).mpr hu]
        rfl
      · obtain ⟨⟨part, field⟩, hd⟩ := Option.ne_none_iff_exists'.mp (mt (lockedDifference_eq_none_iff p old k hlt).mp hu)
        have hdiff := (hfirst _ _ _ _ _).mp ((lockedDifference_eq_some_iff p old k part field hlt).mp hd)
        exact ⟨part, field, hdiff, hrefused part field hdiff⟩

end Sys2Proof.Machine
end

section
/-! SUPPORT. The course of a test: its start, hold, resume, abort, step boundary, break and end, each as the events it puts on
a state with its blocks changed (chapter Running a Test). -/

namespace Sys2Proof.Machine

variable {s t : State}

/-! ### Events and the blocks of a test -/

/-- A state with other items of TSQ, SMP, XHS, RES and TRB: none of them is read or changed by a put. -/
def State.withBlocks (k : Tsq) (m : Smp) (x : Xhs) (r : Res) (b : Trb) (s : State) : State :=
  { s with tsq := k, smp := m, xhs := x, res := r, trb := b }

variable {k : Tsq} {m : Smp} {x : Xhs} {r : Res} {b : Trb}

theorem put_withBlocks (e : Event) (s : State) : (s.withBlocks k m x r b).put e = (s.put e).withBlocks k m x r b := by
  unfold State.put State.withBlocks
  dsimp only
  split <;> rfl

theorem putAll_withBlocks (es : List Event) (s : State) :
    State.putAll es (s.withBlocks k m x r b) = (State.putAll es s).withBlocks k m x r b := by
  induction es generalizing s with
  | nil => rfl
  | cons e es ih => rw [State.putAll, put_withBlocks, ih, State.putAll]

theorem withBlocks_self (s : State) : s.withBlocks s.tsq s.smp s.xhs s.res s.trb = s := rfl

/-- A further put is one more event. -/
theorem putAll_put (es : List Event) (e : Event) (s : State) : (State.putAll es s).put e = State.putAll (es ++ [e]) s := by
  rw [putAll_append]
  rfl

/-- The averaging set is that of the arms. -/
theorem averagingSet_withBlocks (es : List Event) (s : State) :
    ((State.putAll es s).withBlocks k m x r b).averagingSet = s.averagingSet := by
  have hxtc : (State.putAll es s).xtc = s.xtc := by simp
  show (((State.putAll es s).xtc.armA.inSet), ((State.putAll es s).xtc.armB.inSet)) = _
  rw [hxtc]
  rfl

theorem setSource_withBlocks (new : StrainSource) (offset : Int) (c : SourceCause) (s : State) :
    (s.withBlocks k m x r b).setSource new offset c =
      (State.putAll (if m.source = new then [] else [.source new c]) s).withBlocks k
        { m with source := new, sourceOffset := offset } x r b := by
  unfold State.setSource
  dsimp only
  rw [show (s.withBlocks k m x r b).smp.source = m.source from rfl]
  split
  · rfl
  · exact put_withBlocks (m := { m with source := new, sourceOffset := offset }) _ s

/-! ### The entry to ENDED (R139, R163, R185) -/

/-- The copies of TSQ after a test end (R139). -/
theorem settlePending_withBlocks (reason : EndReason) (s : State) :
    let applies := decide (reason ≠ .abortRequest) && k.pendingCopy.isSome
    (s.withBlocks k m x r b).settlePending reason =
      (State.putAll (if applies then [.profileApplied .testEnd] else []) s).withBlocks
        { k with active := if applies then k.pendingCopy else k.active, pendingCopy := none } m x r b := by
  have happly : (s.withBlocks k m x r b).applyPending .testEnd =
      (State.putAll (if k.pendingCopy.isSome then [.profileApplied .testEnd] else []) s).withBlocks
        { k with active := if k.pendingCopy.isSome then k.pendingCopy else k.active, pendingCopy := none } m x r b := by
    unfold State.applyPending
    rw [show (s.withBlocks k m x r b).tsq = k from rfl]
    cases hp : k.pendingCopy with
    | none =>
      show s.withBlocks k m x r b = s.withBlocks { k with pendingCopy := none } m x r b
      rw [← hp]
    | some p => exact put_withBlocks (k := { k with active := some p, pendingCopy := none }) _ s
  cases reason with
  | abortRequest => rfl
  | _ => exact happly

theorem finalMark_eq (reason : EndReason) (found : Bool) : finalMark reason found =
    decide (reason = .lastStep ∨ reason = .break ∨ (reason = .abortRequest ∧ found = true)) := by
  cases reason <;> cases found <;> rfl

/-- RES at a test end (R185). -/
def Res.ended (r : Res) (reason : EndReason) (mark : Bool) (items : ResItems) : Res :=
  { r with items := { items with record := { items.record with reason := some reason, final := some mark } } }

theorem resEnd_withBlocks (reason : EndReason) (s : State) :
    (s.withBlocks k m x r b).resEnd reason =
      (s.put (.resultReady reason (finalMark reason k.breakFound))).withBlocks k m x
        (r.ended reason (finalMark reason k.breakFound)
          (match k.breakFound, k.active with
           | false, some p => r.items.finalise p.spec
           | _, _ => r.items)) b :=
  put_withBlocks _ s

theorem sourceOfSet_eq (s : State) : sourceOfSet s.averagingSet =
    if s.xtc.armA.state = .zeroed then (if s.xtc.armB.state = .zeroed then .extAvg else .extA)
    else if s.xtc.armB.state = .zeroed then .extB else .none := by
  have hin : ∀ r : ArmRec, r.inSet = decide (r.state = .zeroed) := fun r => rfl
  unfold State.averagingSet
  rw [hin, hin]
  by_cases ha : s.xtc.armA.state = .zeroed
  · by_cases hb : s.xtc.armB.state = .zeroed
    · rw [if_pos ha, if_pos hb, decide_eq_true ha, decide_eq_true hb, sourceOfSet]
    · rw [if_pos ha, if_neg hb, decide_eq_true ha, decide_eq_false hb, sourceOfSet]
  · by_cases hb : s.xtc.armB.state = .zeroed
    · rw [if_neg ha, if_pos hb, decide_eq_false ha, decide_eq_true hb, sourceOfSet]
    · rw [if_neg ha, if_neg hb, decide_eq_false ha, decide_eq_false hb, sourceOfSet]

/-- The source at a test end follows the averaging set, and the change marks are clear (R56). -/
theorem sourceAtTestEnd_withBlocks (s : State) :
    (s.withBlocks k m x r b).sourceAtTestEnd =
      (State.putAll (if m.source = sourceOfSet s.averagingSet then [] else [.source (sourceOfSet s.averagingSet) .testEnd]) s).withBlocks
        k { m with source := sourceOfSet s.averagingSet, sourceOffset := 0, handoverMark := false, forcedMark := false }
        x r b := by
  have hfollow := setSource_withBlocks (k := k) (m := m) (x := x) (r := r) (b := b) (sourceOfSet s.averagingSet) 0 .testEnd s
  unfold State.sourceAtTestEnd State.followSet
  dsimp only
  rw [show (s.withBlocks k m x r b).averagingSet = s.averagingSet from rfl, hfollow]
  rfl

/-- The entry to ENDED: its events in order, then TSQ, SMP and RES as R163 leaves them. -/
theorem enterEnded_eq (reason : EndReason) (s : State) :
    let applies := decide (reason ≠ .abortRequest) && s.tsq.pendingCopy.isSome
    let active := if applies then s.tsq.pendingCopy else s.tsq.active
    let source := sourceOfSet s.averagingSet
    let mark := finalMark reason s.tsq.breakFound
    s.enterEnded reason = State.putAll
      ((if applies then [.profileApplied .testEnd] else []) ++ [.test (.ended reason)] ++
        (if s.smp.source = source then [] else [.source source .testEnd]) ++ [.resultReady reason mark])
      (s.withBlocks { s.tsq with state := .ended reason, active := active, pendingCopy := none }
        { s.smp with source := source, sourceOffset := 0, handoverMark := false, forcedMark := false } s.xhs
        (s.res.ended reason mark (match s.tsq.breakFound, active with
          | false, some p => s.res.items.finalise p.spec
          | _, _ => s.res.items)) s.trb) := by
  intro applies active source mark
  have hstate : { s with tsq := { s.tsq with state := .ended reason } } =
      s.withBlocks { s.tsq with state := .ended reason } s.smp s.xhs s.res s.trb := rfl
  have hset : ∀ es : List Event, (State.putAll es s).averagingSet = s.averagingSet := fun es =>
    averagingSet_withBlocks (k := (State.putAll es s).tsq) (m := (State.putAll es s).smp) (x := (State.putAll es s).xhs)
      (r := (State.putAll es s).res) (b := (State.putAll es s).trb) es s
  unfold State.enterEnded
  dsimp only
  rw [hstate, settlePending_withBlocks, put_withBlocks, putAll_put, sourceAtTestEnd_withBlocks, hset, resEnd_withBlocks,
    ← putAll_append, putAll_put, ← putAll_withBlocks]

/-- Settles O52: the entry to ENDED is its events on its blocks (`enterEnded_eq`). -/
theorem entryToEnded : Obligations.EntryToEnded := by
  intro s reason marked applies active source items
  have hended := enterEnded_eq reason s
  rw [sourceOfSet_eq, finalMark_eq] at hended
  exact hended

/-! ### TEST_START (R145, R146) -/

/-- The bumpless begin of a step, by its mode (R78). -/
theorem beginBumpless_eq (x : Xhs) (composed : Nat) (q : ProfileStep) : x.beginBumpless composed q =
    (let begun : Xhs := { x with mode := .step, effRate := 0, transition := some ⟨0, q.rate, q.transition * 1000, 0⟩ }
     match q.mode with
     | .posRate => { begun with controlClass := .position, posAcc := x.position * 12000 }
     | .hold => { begun with controlClass := .position, posAcc := x.position * 12000 }
     | .strainRate => { begun with controlClass := .strain, rateAcc := .waiting composed }
     | .stressRate => { begun with controlClass := .stress, rateAcc := .waiting composed }) := by
  unfold Xhs.beginBumpless
  cases q.mode <;> rfl

theorem planSource_eq (p : Profile) (s : State) : s.planSource p =
    (match p.spec.plan with
     | .xhead => .xhead
     | .ext =>
       if s.xtc.armA.state = .zeroed then (if s.xtc.armB.state = .zeroed then .extAvg else .extA)
       else if s.xtc.armB.state = .zeroed then .extB else .none) := by
  unfold State.planSource
  rw [sourceOfSet_eq]
  cases p.spec.plan <;> rfl

theorem zeroReference_eq (s : State) : s.zeroReference =
    (match s.smp.last with
     | some l => l.basis.corrected
     | none => s.position) := rfl

theorem started_eq (t : Trb) (base : Nat) : t.started base =
    { t with buffer := [], gap := false, base := base, factor := base, lastIndex := none,
             inFlight := if t.inFlight = .no then .no else .discarded } := by
  unfold Trb.started
  cases t.inFlight <;> rfl

/-- An accepted TEST_START before the guard is looked at: its events, and the blocks it sets (R57, R146, R188, R199). -/
theorem startTest_eq {p : Profile} {first : ProfileStep} (hp : p.stepAt 0 = some first) (s : State) :
    let source := s.planSource p
    s.startTest p = State.guardAtStart (State.putAll
      ([.test .running] ++ (if s.smp.source = source then [] else [.source source .start]) ++ [.step 0])
      (s.withBlocks
        { s.tsq with state := .running, step := some 0, stepTime := 0, startPosition := s.position, prevLoaded := none,
                     breakFound := false, fracture := none }
        { s.smp with source := source, sourceOffset := 0, handoverMark := false, forcedMark := false,
                     zeroRef := s.zeroReference, index := 0, composedAtStart := s.smp.composed }
        (s.xhs.beginBumpless s.smp.composed first) (Res.started p.spec) (s.trb.started p.spec.traceBase.toNat))) := by
  intro source
  have hsequence : s.startSequence.put (.test .running) = (s.put (.test .running)).withBlocks
      { s.tsq with state := .running, step := some 0, stepTime := 0, startPosition := s.position, prevLoaded := none,
                   breakFound := false, fracture := none } s.smp s.xhs s.res s.trb := put_withBlocks _ s
  have hread : ((s.put (.test .running)).withBlocks
      { s.tsq with state := .running, step := some 0, stepTime := 0, startPosition := s.position, prevLoaded := none,
                   breakFound := false, fracture := none } s.smp s.xhs s.res s.trb).planSource p = source ∧
      ((s.put (.test .running)).withBlocks
      { s.tsq with state := .running, step := some 0, stepTime := 0, startPosition := s.position, prevLoaded := none,
                   breakFound := false, fracture := none } s.smp s.xhs s.res s.trb).zeroReference = s.zeroReference := by
    refine ⟨?_, rfl⟩
    have hset := averagingSet_withBlocks (k := { s.tsq with
      state := .running, step := some 0, stepTime := 0, startPosition := s.position, prevLoaded := none,
      breakFound := false, fracture := none }) (m := s.smp) (x := s.xhs) (r := s.res) (b := s.trb) [.test .running] s
    unfold State.planSource
    rw [show (s.put (.test .running)) = State.putAll [.test .running] s from rfl, hset] <;> rfl
  obtain ⟨hplan, hzero⟩ := hread
  unfold State.startTest State.startSource
  dsimp only
  rw [hsequence, hplan, hzero, setSource_withBlocks]
  unfold State.beginFirst
  rw [hp, putAll_append, putAll_append, putAll_withBlocks, putAll_withBlocks]
  rfl

theorem startBusy_iff (s : State) : s.startBusy = true ↔
    s.ldc.tareProgress ≠ none ∨ s.ldc.shunt ≠ none ∨ s.xhs.monitor ≠ none ∨ s.xhs.mode = .jog ∨ s.xhs.mode = .move ∨
    .seating ∈ [s.xtc.armA.state, s.xtc.armB.state] ∨ .zeroing ∈ [s.xtc.armA.state, s.xtc.armB.state] := by
  simp only [State.startBusy, Bool.or_eq_true, busy_iff, Option.isSome_iff_ne_none, beq_iff_eq, List.any_cons, List.any_nil,
    Bool.or_false, List.mem_cons, List.not_mem_nil, or_false]
  grind

theorem planUnseated_iff (p : Profile) (s : State) : s.planUnseated p = true ↔
    p.spec.plan = .ext ∧ .zeroed ∉ [s.xtc.armA.state, s.xtc.armB.state] := by
  have hin : ∀ r : ArmRec, r.inSet = decide (r.state = .zeroed) := fun r => rfl
  simp [State.planUnseated, State.averagingSet, hin, eq_comm (a := ArmState.zeroed)]

/-- The checks of TEST_START with a profile and the chain CLOSED (R145). -/
theorem testStart_closed {p : Profile} (ht : s.testing = false) (hp : s.tsq.active = some p) (hc : s.dec.chain = .closed) :
    s.testStart =
      if ¬ (s.asserted .gripUpper = true ∧ s.asserted .gripLower = true) then (s, .no .notReady)
      else if s.ldc.table s.ldc.range = [] then (s, .no .noCal)
      else if s.startBusy then (s, .no .busy)
      else if s.planUnseated p then (s, .no .notSeated)
      else (s.startTest p, .ack []) := by
  refine (if_neg (by simp [ht])).trans ?_
  rw [hp]
  refine (if_neg (by simp [hc])).trans (if_congr ?_ rfl (if_congr ?_ rfl rfl))
  · rw [Bool.not_eq_true', ← Bool.not_eq_true, State.gripsClosed, Bool.and_eq_true]
  · rw [Bool.not_eq_true', ← Bool.not_eq_true, rangeValid_iff, not_not]

/-- Settles O50: by the checks in order, and by the blocks that the start sets (`startTest_eq`). -/
theorem testStart : Obligations.TestStart := by
  refine ⟨fun s tag hf => ?_, fun s p first hp => ?_⟩
  · intro no grips arms busy
    refine ⟨fun ht => ?_, fun ht hp => ?_, fun p ht hp => ⟨fun hc => ?_, fun hc => ?_⟩⟩
    · exact exec_refused hf .testStart tag rfl (if_pos ht)
    · refine exec_refused hf .testStart tag rfl ((if_neg (by simp [ht])).trans ?_)
      rw [hp] <;> rfl
    · refine exec_refused hf .testStart tag rfl ((if_neg (by simp [ht])).trans ?_)
      rw [hp]
      exact if_pos hc
    · have hact : s.act .testStart = _ := testStart_closed ht hp hc
      have hbusy : s.startBusy = true ↔ busy := startBusy_iff s
      refine ⟨fun hg => ?_, fun hg hcal => ?_, fun hg hcal => ⟨fun hb => ?_, fun hb hext hz => ?_, fun hb hplan => ?_⟩⟩
      · exact exec_refused hf .testStart tag rfl (hact.trans (if_pos hg))
      · exact exec_refused hf .testStart tag rfl (hact.trans ((if_neg (not_not.mpr hg)).trans (if_pos hcal)))
      · exact exec_refused hf .testStart tag rfl (hact.trans ((if_neg (not_not.mpr hg)).trans ((if_neg hcal).trans
          (if_pos (hbusy.mpr hb)))))
      · exact exec_refused hf .testStart tag rfl (hact.trans ((if_neg (not_not.mpr hg)).trans ((if_neg hcal).trans
          ((if_neg (mt hbusy.mp hb)).trans (if_pos ((planUnseated_iff p s).mpr ⟨hext, hz⟩))))))
      · have hseated : ¬ s.planUnseated p = true := by
          rw [planUnseated_iff]
          rintro ⟨hext, hz⟩
          exact hplan.elim (fun hx => by simp [hx] at hext) hz
        exact exec_acked hf .testStart tag rfl (hact.trans ((if_neg (not_not.mpr hg)).trans ((if_neg hcal).trans
          ((if_neg (mt hbusy.mp hb)).trans (if_neg hseated)))))
  · intro source begun ready told
    have hsource : s.planSource p = source := planSource_eq p s
    have hstart := startTest_eq (p := p) hp s
    dsimp only at hstart
    rw [hsource, beginBumpless_eq, zeroReference_eq, started_eq] at hstart
    have htold : s.startTest p = told.guardAtStart := hstart
    have hguard : told.asserted .guard = s.asserted .guard := by
      have hdio : told.dio = s.dio := by simp [told, ready]
      simp only [State.asserted, hdio]
    rw [htold, State.guardAtStart, hguard]

end Sys2Proof.Machine
end

section
/-! SUPPORT. Hold, resume and abort, the samples of a test, its step boundaries and its breaks (chapter Running a Test). -/

namespace Sys2Proof.Machine

variable {s t : State}

/-! ### TEST_HOLD, TEST_RESUME and TEST_ABORT (R153, R155, R161) -/

/-- Outside a test the state is IDLE or ENDED (section 8.2). -/
theorem not_testing_iff (s : State) : s.testing = false ↔ s.tsq.state = .idle ∨ ∃ r, s.tsq.state = .ended r := by
  unfold State.testing TestState.testing
  cases s.tsq.state <;> simp

/-- TEST_HOLD by the test state (R153). -/
theorem testHold_cases (s : State) :
    (s.tsq.state = .running → s.testHold = (s.holdTest, .ack [])) ∧
    (∀ c, s.tsq.state = .holding c → s.testHold = (s, .ack [])) ∧
    (s.tsq.state.sampling = false → s.testHold = (s, .no .state)) := by
  unfold State.testHold
  cases s.tsq.state <;> simp [TestState.sampling]

/-- TEST_RESUME by the test state (R155). -/
theorem testResume_cases (s : State) :
    (s.tsq.state = .holding .request → s.testResume = (s.resumeTest, .ack [])) ∧
    (s.tsq.state = .holding .soft → s.testResume = (s, .no .limit)) ∧
    ((∀ c, s.tsq.state ≠ .holding c) → s.testResume = (s, .no .state)) := by
  unfold State.testResume
  cases s.tsq.state with
  | holding c => cases c <;> simp
  | _ => simp

/-- Settles O51: by the test state. -/
theorem testHoldResumeAbort : Obligations.TestHoldResumeAbort := by
  intro s tag hf still ended
  obtain ⟨hhold, hheld, hnohold⟩ := testHold_cases s
  obtain ⟨hresume, hsoft, hnoresume⟩ := testResume_cases s
  refine ⟨fun h => ?_, fun c h => ?_, fun h => ?_, fun k h hk => ?_, fun h => ?_, fun h => ?_, fun h => ?_, fun h => ?_⟩
  · exact exec_acked hf .testHold tag rfl (hhold h)
  · exact exec_acked hf .testHold tag rfl (hheld c h)
  · refine exec_refused hf .testHold tag rfl (hnohold ?_)
    obtain (h | ⟨r, h⟩) | h := h <;> rw [h] <;> rfl
  · intro begun
    have hbegun : s.resumeTest = State.enterTest .running (s.servoBumpless k) := by
      unfold State.resumeTest
      rw [hk]
    have hx : s.xhs.beginBumpless s.smp.composed k = _ := beginBumpless_eq s.xhs s.smp.composed k
    unfold State.servoBumpless at hbegun
    rw [hx] at hbegun
    exact exec_acked hf .testResume tag rfl ((hresume h).trans (congrArg (·, _) hbegun))
  · exact exec_refused hf .testResume tag rfl (hsoft h)
  · refine exec_refused hf .testResume tag rfl (hnoresume fun c hc => ?_)
    rw [hc] at h
    simp [ended, hc] at h
  · exact exec_acked hf .testAbort tag rfl (if_pos h)
  · exact exec_refused hf .testAbort tag rfl (if_neg (by simp [h]))

/-! ### A sample in a test (R148 to R150, R157) -/

/-- The previous loaded sample after a sample without a break (R157). -/
def Sample.previous (m : Sample) (held : Option LoadedSample) : Option LoadedSample :=
  match m.held, m.load with
  | false, some load => some ⟨m.index, load⟩
  | _, _ => held

theorem notePrevious_eq (m : Sample) (s : State) :
    s.notePrevious m = { s with tsq := { s.tsq with prevLoaded := m.previous s.tsq.prevLoaded } } := by
  unfold State.notePrevious Sample.loaded Sample.previous
  cases m.held <;> cases m.load <;> rfl

theorem min_succ_stepTime (n : Nat) : min (n + 1) stepTimeMax = if n < 4294967295 then n + 1 else 4294967295 := by
  unfold stepTimeMax
  split <;> omega

theorem atLeast_iff (field : Option Int) (threshold : Int) : atLeast field threshold = true ↔
    ∃ x, field = some x ∧ threshold ≤ x := by
  cases field <;> simp [atLeast]

theorem pastFmax_iff (p : ProfileSpec) (r : ResultRecord) (stress : Option Int) (threshold : Int) :
    pastFmax p r stress threshold = true ↔ ∃ (f : FmaxFigure) (rm x : Int), r.fmax = some f ∧ r.rm = some rm ∧
      stress = some x ∧ p.armLoad ≤ f.load ∧ x ≤ roundDiv (rm * (100 - threshold)) 100 := by
  unfold pastFmax
  cases r.fmax with
  | none => simp
  | some f =>
    cases r.rm with
    | none => simp
    | some rm => cases stress <;> simp

theorem breaksOn_iff {m : Sample} {load : Int} (hm : m.loaded = some load) : s.breaksOn m = s.breakFoundOn load := by
  unfold State.breaksOn
  rw [hm]

/-- Without a loaded sample, a previous one or Fmax there is no break (R157). -/
theorem breaksOn_none (m : Sample)
    (h : m.held = true ∨ m.load = none ∨ s.tsq.prevLoaded = none ∨ s.res.items.record.fmax = none) : s.breaksOn m = false := by
  unfold State.breaksOn Sample.loaded
  cases hload : (if m.held = true then none else m.load) with
  | none => rfl
  | some load =>
    have hm : m.held = false ∧ m.load = some load := by
      cases hh : m.held <;> simp_all
    obtain ⟨hh, hl⟩ := hm
    unfold State.breakFoundOn State.armedFmax
    obtain h | h | h | h := h
    · simp [hh] at h
    · simp [hl] at h
    · rw [h]
      cases s.tsq.active <;> rfl
    · rw [h]
      cases s.tsq.active <;> cases s.tsq.prevLoaded <;> rfl

theorem stepEnds_eq {p : Profile} {n : Nat} {k : ProfileStep} (m : Sample) (found : Bool) (hp : s.tsq.active = some p)
    (hn : s.tsq.step = some n) (hk : p.steps[n]? = some k) : s.stepEnds m found =
      ((decide (1 ≤ k.count) && s.conditionMet p.spec m found k.cond1) ||
       (decide (2 ≤ k.count) && s.conditionMet p.spec m found k.cond2)) := by
  have hcurrent : s.currentStep = some k := by
    unfold State.currentStep
    rw [hp, hn]
    exact hk
  unfold State.stepEnds
  rw [hp, hcurrent]

/-- Settles O53: by the test state and the row of the condition. -/
theorem runningSample : Obligations.RunningSample := by
  refine ⟨fun s m found h hb => ?_, fun s m found => ⟨fun p n k hp hn hk => ?_, fun h => ?_⟩, fun p m found threshold s => ?_,
    fun s m found => ⟨fun c h hb => ?_, fun h => ?_, breaksOn_none m⟩⟩
  · intro counted
    have hcounted : s.countStep.notePrevious m = counted := by
      rw [notePrevious_eq]
      unfold State.countStep
      rw [min_succ_stepTime]
      rfl
    have htake : s.testTake m found = s.runningTake m found := by
      unfold State.testTake
      rw [h]
    have hbreak : ¬ s.countStep.breaksOn m = true := Bool.eq_false_iff.mp hb
    rw [htake, State.runningTake]
    dsimp only
    rw [if_neg hbreak, hcounted]
  · rw [stepEnds_eq m found hp hn hk]
    simp
  · unfold State.stepEnds State.currentStep
    obtain h | h := h
    · rw [h]
    · rw [h]
      cases s.tsq.active <;> rfl
  · exact ⟨atLeast_iff _ _, atLeast_iff _ _, atLeast_iff _ _, decide_eq_true_iff, decide_eq_true_iff, Iff.rfl,
      pastFmax_iff _ _ _ _⟩
  · have htake : s.testTake m found = s.holdingTake m := by
      unfold State.testTake
      rw [h]
    rw [htake, State.holdingTake, if_neg (by simp [hb]), notePrevious_eq]
    rfl
  · unfold State.testTake
    cases hs : s.tsq.state <;> simp_all [TestState.sampling]

/-! ### Step boundaries (R77, R78, R151, R152) -/

/-- The begin of a step after another, by whether its class is in force (R77, R78). -/
theorem beginStep_eq (x : Xhs) (composed : Nat) (next : ProfileStep) : x.beginStep composed next =
    (let kind : ControlClass :=
       match next.mode with
       | .strainRate => .strain
       | .stressRate => .stress
       | _ => .position
     if x.mode = .step ∧ x.controlClass = kind then
       { x with transition := some ⟨x.effRate, next.rate, next.transition * 1000, 0⟩,
                posAcc := if next.mode = .hold then x.position * 12000 else x.posAcc }
     else
       { x with mode := .step, controlClass := kind, effRate := 0,
                transition := some ⟨0, next.rate, next.transition * 1000, 0⟩,
                posAcc := if kind = .position then x.position * 12000 else x.posAcc,
                rateAcc := if kind = .position then x.rateAcc else .waiting composed }) := by
  unfold Xhs.beginStep Xhs.beginRunning
  rw [beginBumpless_eq]
  cases next.mode <;> rfl

theorem applyPending_kept (w : AppliedAt) (s : State) : (s.applyPending w).tsq.step = s.tsq.step ∧
    (s.applyPending w).xhs = s.xhs ∧ (s.applyPending w).smp = s.smp := by
  unfold State.applyPending
  split <;> simp

/-- Settles O54: the release, the pending copy and the next step in their order. -/
theorem stepBoundaryOrder : Obligations.StepBoundaryOrder := by
  intro s ending k hk hending released applied
  have hreleased : s.stepRelease = released := by
    unfold State.stepRelease
    rw [hending]
  have hrelease : Onward s released ∧ released.tsq = s.tsq := by
    dsimp only [released]
    split
    · exact ⟨.releaseStart s _ _ _, by simp⟩
    · exact ⟨.refl s, rfl⟩
  obtain ⟨honward, htsq⟩ := hrelease
  have happlied : released.applyPending .boundary = applied := by
    unfold State.applyPending
    rw [htsq]
    dsimp only [applied]
    cases s.tsq.pendingCopy with
    | none => rfl
    | some p =>
      dsimp only
      rw [htsq]
  obtain ⟨hstep, hxhs, hsmp⟩ := applyPending_kept .boundary released
  rw [happlied] at hstep hxhs hsmp
  rw [htsq, hk] at hstep
  have hposition : applied.xhs.position = s.position := by
    rw [hxhs]
    exact honward.position
  have hboundary : s.stepBoundary = applied.nextStep := by
    unfold State.stepBoundary
    rw [hreleased, happlied]
  refine ⟨?_, fun p hp hend => ?_⟩
  · intro p next hp hnext kind x rest begun
    have hcomposed : applied.smp.composed = s.smp.composed := by rw [hsmp, honward.composed]
    have hbegin := beginStep_eq x s.smp.composed next
    rw [show x.position = s.position from hposition] at hbegin
    have hbegun : x.beginStep applied.smp.composed next = begun := by
      rw [hcomposed]
      exact hbegin
    have hfound : (applied.tsq.active.bind (·.stepAt (applied.tsq.step.getD 0 + 1))) = some next := by
      rw [hp, hstep]
      exact hnext
    rw [hboundary, State.nextStep]
    dsimp only
    rw [hfound, hstep]
    dsimp only [State.servoBegin, Option.getD_some]
    rw [← hbegun]
  · have hnone : (applied.tsq.active.bind (·.stepAt (applied.tsq.step.getD 0 + 1))) = none := by
      rw [hp, hstep]
      exact List.getElem?_eq_none hend
    rw [hboundary, State.nextStep]
    dsimp only
    rw [hnone, ← hposition]
    rfl

end Sys2Proof.Machine
end

section
/-! SUPPORT. The records of the two arms, a release start, and the break of a test (chapters Extensometer Arms and Running a
Test). -/

namespace Sys2Proof.Machine

variable {s t : State}

/-! ### The records of the arms -/

@[simp] theorem arm_setArm (w : Arm) (r : ArmRec) (s : State) : (s.setArm w r).arm w = r := by
  cases w <;> rfl

theorem arm_setArm_other {v w : Arm} (h : v ≠ w) (r : ArmRec) (s : State) : (s.setArm w r).arm v = s.arm v := by
  cases v <;> cases w <;> simp_all [State.arm, State.setArm]

@[simp] theorem arm_put (w : Arm) (e : Event) (s : State) : (s.put e).arm w = s.arm w := by
  cases w <;> simp [State.arm]

@[simp] theorem arm_changeArm (w : Arm) (r : ArmRec) (s : State) : (s.changeArm w r).arm w = r := by
  rw [State.changeArm, arm_put, arm_setArm]

theorem arm_changeArm_other {v w : Arm} (h : v ≠ w) (r : ArmRec) (s : State) : (s.changeArm w r).arm v = s.arm v := by
  rw [State.changeArm, arm_put, arm_setArm_other h]

theorem arm_congr (w : Arm) (h : t.xtc = s.xtc) : t.arm w = s.arm w := by
  cases w <;> simp only [State.arm, h]

/-! ### A release start (R43 to R45) -/

/-- The record of an arm that has entered RELEASING (R45). -/
def State.releasedArm (w : Arm) (s : State) : ArmRec :=
  { s.arm w with
    solenoid := .off, capture := none, zeroCode := none, lastElong := none, slip := false, overrange := false
    timer := if s.seatClosed w then some (s.timeAfter s.xtc.releaseTimeout) else none
    state := if s.seatClosed w then .releasing else .opened }

theorem enterReleasing_eq (w : Arm) (s : State) : s.enterReleasing w = s.changeArm w (s.releasedArm w) := by
  unfold State.enterReleasing State.releasedArm
  dsimp only
  split <;> rfl

theorem releaseArm_eq (applies request : Bool) (w : Arm) (s : State) : s.releaseArm applies request w =
    if applies = true ∧ (s.arm w).state.releasable request = true then s.changeArm w (s.releasedArm w) else s := by
  unfold State.releaseArm
  rw [← enterReleasing_eq]
  exact if_congr (by rw [Bool.and_eq_true]) rfl rfl

/-- An arm that no longer holds on to the specimen: OPEN, RELEASING or in FAULT (R43). -/
def ArmState.letGo (a : ArmState) : Prop := a = .opened ∨ a = .releasing ∨ ∃ c, a = .fault c

theorem letGo_of_not_releasable {a : ArmState} (h : ¬ a.releasable false = true) : a.letGo := by
  unfold ArmState.letGo
  cases a <;> simp_all [ArmState.releasable]

theorem letGo_of_not_engaged {a : ArmState} (h : ¬ a.engaged = true) : a.letGo := by
  unfold ArmState.letGo
  cases a <;> simp_all [ArmState.engaged]

theorem releaseArm_letGo (w : Arm) (s : State) : ((s.releaseArm true false w).arm w).state.letGo := by
  rw [releaseArm_eq]
  split
  case isTrue =>
    rw [arm_changeArm]
    unfold State.releasedArm
    dsimp only
    split
    · exact .inr (.inl rfl)
    · exact .inl rfl
  case isFalse h => exact letGo_of_not_releasable (by simpa using h)

theorem arm_releaseArm_other {v w : Arm} (h : v ≠ w) (applies request : Bool) (s : State) :
    (s.releaseArm applies request w).arm v = s.arm v := by
  rw [releaseArm_eq]
  split
  · exact arm_changeArm_other h _ s
  · rfl

theorem arm_releaseStart (w : Arm) (a b request : Bool) (s : State) :
    (s.releaseStart a b request).arm w = (s.releaseArms a b request).arm w := by
  unfold State.releaseStart
  exact arm_congr w (by simp)

/-- After a protective release neither arm holds on (R43). -/
theorem releaseStart_letGo (w : Arm) (s : State) : ((s.releaseStart true true false).arm w).state.letGo := by
  rw [arm_releaseStart, State.releaseArms]
  cases w with
  | a =>
    rw [arm_releaseArm_other (by decide)]
    exact releaseArm_letGo .a s
  | b => exact releaseArm_letGo .b _

/-! ### Breaks (R157 to R160, R182 to R185) -/

theorem isBreak_iff (p : ProfileSpec) (prev load fmax : Int) : isBreak p prev load fmax = true ↔
    fmax * p.breakStep ≤ (prev - load) * 100 ∨ load * 100 < fmax * p.breakFloor := by
  simp [isBreak]

/-- A loaded sample with a previous one is a break sample by the arm load, the step fall and the floor (R157, R158). -/
theorem breaksOn_of_loaded {m : Sample} {p : Profile} {prev : LoadedSample} {fmax : FmaxFigure} {load : Int}
    (hp : s.tsq.active = some p) (hh : m.held = false) (hl : m.load = some load) (hprev : s.tsq.prevLoaded = some prev)
    (hf : s.res.items.record.fmax = some fmax) : s.breaksOn m = true ↔
      p.spec.armLoad ≤ fmax.load ∧
      (fmax.load * p.spec.breakStep ≤ (prev.load - load) * 100 ∨ load * 100 < fmax.load * p.spec.breakFloor) := by
  have hloaded : m.loaded = some load := by
    unfold Sample.loaded
    rw [hh, hl]
    rfl
  rw [breaksOn_iff hloaded, ← isBreak_iff]
  unfold State.breakFoundOn State.armedFmax
  rw [hp, hprev, hf]
  dsimp only
  by_cases harm : p.spec.armLoad ≤ fmax.load
  · rw [if_pos harm]
    simp [harm]
  · rw [if_neg harm]
    simp [harm]

/-- The state in which a break is found: the step time is counted in RUNNING (R149). -/
def State.stepCounted (s : State) : State :=
  { s with tsq := { s.tsq with
      stepTime := if s.tsq.state = .running then min (s.tsq.stepTime + 1) 4294967295 else s.tsq.stepTime } }

/-- A break sample up to what RES does (R159 steps 1 to 4). -/
def State.breakReleased (fracture : Option Word) (s : State) : State :=
  ((State.servoStop { s with tsq := { s.tsq with breakFound := true, fracture := fracture } }).breakRelease).resBreak fracture

theorem breakReleased_tsq (fracture : Option Word) (s : State) :
    (s.breakReleased fracture).tsq = { s.tsq with breakFound := true, fracture := fracture } := by
  simp [State.breakReleased, State.servoStop]

theorem breakDetected_eq (s : State) : s.breakDetected =
    ((s.breakReleased (s.tsq.prevLoaded.map (·.index))).put (.breakFound
      ((s.breakReleased (s.tsq.prevLoaded.map (·.index))).tsq.step.getD 0)
      ((s.tsq.prevLoaded.map (·.index)).getD 0))).afterBreak := rfl

theorem breakDetected_of {prev : LoadedSample} {k : Nat} (hprev : s.tsq.prevLoaded = some prev) (hk : s.tsq.step.getD 0 = k) :
    s.breakDetected =
      ((s.breakReleased (some prev.index)).put (.breakFound k prev.index)).afterBreak := by
  have hmap : s.tsq.prevLoaded.map (·.index) = some prev.index := by rw [hprev, Option.map_some]
  rw [breakDetected_eq, hmap, breakReleased_tsq, hk, Option.getD_some]

theorem testTake_break {m : Sample} {prev : LoadedSample} {k : Nat} (found : Bool) (hs : s.tsq.state.sampling = true)
    (hb : s.breaksOn m = true) (hprev : s.tsq.prevLoaded = some prev) (hk : s.tsq.step.getD 0 = k) :
    s.testTake m found =
      ((s.stepCounted.breakReleased (some prev.index)).put (.breakFound k prev.index)).afterBreak := by
  have htake : s.testTake m found = s.stepCounted.breakDetected := by
    unfold State.testTake State.stepCounted
    cases hstate : s.tsq.state with
    | running =>
      rw [if_pos rfl]
      exact if_pos hb
    | holding c =>
      rw [if_neg (by simp)]
      exact if_pos hb
    | idle => simp [hstate, TestState.sampling] at hs
    | returning => simp [hstate, TestState.sampling] at hs
    | ended r => simp [hstate, TestState.sampling] at hs
  rw [htake, breakDetected_of (s := s.stepCounted) hprev hk]

/-- What RES does at a break reads RES and the active copy alone. -/
theorem resBreak_res (fracture : Option Word) (hr : t.res = s.res) (ha : t.tsq.active = s.tsq.active) :
    (t.resBreak fracture).res = (s.resBreak fracture).res := by
  unfold State.resBreak
  rw [ha, hr]
  cases s.tsq.active with
  | none => exact hr
  | some p => rfl

theorem breakRelease_res (s : State) : s.breakRelease.res = s.res := by
  simp

theorem afterBreak_of {p : Profile} (hp : s.tsq.active = some p) : s.afterBreak =
    if p.spec.returnAfter then s.enterReturning p.spec.returnSpeed else s.enterEnded .break := by
  unfold State.afterBreak
  rw [hp]

/-- RES holds the record as ended after a break (R185). -/
theorem enterEnded_res (reason : EndReason) (hb : s.tsq.breakFound = true) :
    (s.enterEnded reason).res = s.res.ended reason (finalMark reason true) s.res.items := by
  have hended := congrArg State.res (enterEnded_eq reason s)
  rw [hb] at hended
  simpa [State.withBlocks] using hended

/-- The part after the event BREAK: what the return and the end start from. -/
theorem breakReleased_kept (fracture : Option Word) (s : State) :
    (s.breakReleased fracture).xhs = s.xhs.stopped ∧
    (s.breakReleased fracture).res = (s.resBreak fracture).res := by
  refine ⟨by simp [State.breakReleased, State.servoStop], ?_⟩
  unfold State.breakReleased
  exact resBreak_res fracture (by simp [State.servoStop]) (by simp [State.servoStop])

/-- After a break neither arm holds on (R159). -/
theorem breakReleased_letGo (fracture : Option Word) (w : Arm) (s : State) :
    ((s.breakReleased fracture).arm w).state.letGo := by
  have hres : ∀ v : State, (v.resBreak fracture).arm w = v.arm w := fun v => arm_congr w (by simp)
  rw [State.breakReleased, hres, State.breakRelease]
  split
  case isTrue => exact releaseStart_letGo w _
  case isFalse h =>
    simp only [Bool.or_eq_true, not_or] at h
    obtain ⟨ha, hb⟩ := h
    cases w with
    | a => exact letGo_of_not_engaged ha
    | b => exact letGo_of_not_engaged hb

theorem enterEnded_tsq (reason : EndReason) (s : State) : ∃ a, (s.enterEnded reason).tsq =
    { s.tsq with state := .ended reason, active := a, pendingCopy := none } := by
  rw [enterEnded_eq]
  simp only [putAll_frame]
  exact ⟨_, rfl⟩

/-- The entry to RETURNING (R160). -/
theorem enterReturning_parts (speed : Int) (s : State) :
    (s.enterReturning speed).tsq = { s.tsq with state := .returning } ∧
    (s.enterReturning speed).xhs = { s.xhs with mode := .return, target := some ⟨s.tsq.startPosition, speed⟩ } ∧
    (s.enterReturning speed).res = s.res ∧ (s.enterReturning speed).xtc = s.xtc := by
  simp [State.enterReturning, State.servoReturn, State.enterTest]

theorem enterReturning_eq (speed : Int) (s : State) : s.enterReturning speed =
    { State.put (.test .returning) { s with tsq := { s.tsq with state := .returning } } with
      xhs := { s.xhs with mode := .return, target := some ⟨s.tsq.startPosition, speed⟩ } } := by
  simp [State.enterReturning, State.servoReturn, State.enterTest]

/-- The part after the event BREAK (R159 step 5). -/
theorem breakTold_parts (prev : LoadedSample) (k : Nat) (s : State) :
    let told := (s.stepCounted.breakReleased (some prev.index)).put (.breakFound k prev.index)
    told.tsq = { s.stepCounted.tsq with breakFound := true, fracture := some prev.index } ∧
    told.xhs = s.xhs.stopped ∧ told.res = (s.resBreak (some prev.index)).res ∧
    ∀ w, (told.arm w).state.letGo := by
  obtain ⟨hstopped, hres⟩ := breakReleased_kept (some prev.index) s.stepCounted
  have hxhs : (s.stepCounted.breakReleased (some prev.index)).xhs = s.xhs.stopped := hstopped
  have htsq := breakReleased_tsq (some prev.index) s.stepCounted
  have hsame : (s.stepCounted.resBreak (some prev.index)).res = (s.resBreak (some prev.index)).res :=
    resBreak_res (some prev.index) rfl rfl
  refine ⟨by simpa using htsq, by simpa using hxhs, by simpa using hres.trans hsame, fun w => ?_⟩
  rw [arm_put]
  exact breakReleased_letGo _ w _

theorem resBreak_fracture {p : Profile} (hp : s.tsq.active = some p) (f : Option Word) :
    (s.resBreak f).res.items.record.fracture = f := by
  unfold State.resBreak
  rw [hp]
  rfl

/-- Settles O55: the break sample by `breaksOn_of_loaded`, and what follows by `testTake_break`. -/
theorem breakSample : Obligations.BreakSample := by
  refine ⟨fun s m found p prev fmax load hs hp hh hl hprev hf => ?_, fun s m found p prev k hs hb hp hprev hk => ?_⟩
  · intro armed falls
    have hbreaks := breaksOn_of_loaded hp hh hl hprev hf
    refine ⟨hbreaks, fun harm hfall => ?_⟩
    intro t
    obtain ⟨htsq, hxhs, hres, harms⟩ := breakTold_parts prev (s.tsq.step.getD 0) s
    have htake := testTake_break found hs (hbreaks.mpr ⟨harm, hfall⟩) hprev rfl
    generalize (s.stepCounted.breakReleased (some prev.index)).put (.breakFound (s.tsq.step.getD 0) prev.index) = told
      at htake htsq hxhs hres harms
    have ht : t = if p.spec.returnAfter then told.enterReturning p.spec.returnSpeed else told.enterEnded .break :=
      htake.trans (afterBreak_of (by rw [htsq]; exact hp))
    have hfracture : told.res.items.record.fracture = some prev.index := by rw [hres, resBreak_fracture hp]
    by_cases hr : p.spec.returnAfter = true
    · obtain ⟨hk, hx, hrec, harm⟩ := enterReturning_parts p.spec.returnSpeed told
      rw [ht, if_pos hr]
      rw [htsq] at hk hx
      rw [hk, hx, hrec]
      exact ⟨rfl, rfl, hprev, rfl, hfracture, fun w => by rw [arm_congr w harm]; exact harms w,
        fun _ => ⟨rfl, rfl, rfl, rfl⟩, fun hn => absurd (hr.symm.trans hn) (by decide)⟩
    · obtain ⟨a, hk⟩ := enterEnded_tsq .break told
      have hrec := enterEnded_res (s := told) .break (by rw [htsq])
      rw [ht, if_neg hr]
      rw [htsq] at hk
      rw [hk, hrec]
      exact ⟨rfl, rfl, hprev, rfl, hfracture, fun w => by rw [arm_congr w (show (told.enterEnded .break).xtc = told.xtc by simp)]; exact harms w,
        fun hn => absurd hn hr, fun _ => ⟨rfl, by rw [show (told.enterEnded .break).xhs = told.xhs by simp, hxhs]; rfl, rfl, rfl⟩⟩
  · intro engaged stopped released told res t
    have htold : told = (s.stepCounted.breakReleased (some prev.index)).put (.breakFound k prev.index) := by
      have hengaged : ∀ which, engaged which = (s.arm which).state.engaged := fun which => by
        unfold engaged
        cases (s.arm which).state <;> rfl
      have hreleased : released = stopped.breakRelease := by
        unfold released
        rw [hengaged .a, hengaged .b]
        rfl
      unfold told
      rw [hreleased]
      rfl
    obtain ⟨htsq, hxhs, hres, harms⟩ := breakTold_parts prev k s
    rw [← htold] at htsq hxhs hres
    have ht : t = if p.spec.returnAfter then told.enterReturning p.spec.returnSpeed else told.enterEnded .break := by
      refine (testTake_break found hs hb hprev (by rw [hk, Option.getD_some])).trans ?_
      rw [← htold]
      exact afterBreak_of (by rw [htsq]; exact hp)
    refine ⟨fun hr => ?_, fun hr => ?_⟩
    · obtain ⟨-, -, hrec, -⟩ := enterReturning_parts p.spec.returnSpeed told
      rw [if_pos hr] at ht
      exact ⟨ht.trans ((enterReturning_eq p.spec.returnSpeed told).trans (by rw [htsq] <;> rfl)), by rw [ht, hrec, hres]⟩
    · rw [if_neg (by rw [hr]; decide)] at ht
      refine ⟨ht, ?_⟩
      rw [ht, enterEnded_res .break (by rw [htsq]), hres]
      rfl

end Sys2Proof.Machine
end

section
/-! SUPPORT. The strain source and what the conversions, inputs and timers of the arms do (chapters Extensometer Arms and
Samples, Strain and Stress). -/

namespace Sys2Proof.Machine

variable {s t : State}

/-! ### The strain source (R55 to R58) -/

theorem setSource_same {new : StrainSource} (h : s.smp.source = new) (offset : Int) (cause : SourceCause) :
    s.setSource new offset cause = { s with smp := { s.smp with source := new, sourceOffset := offset } } := if_pos h

theorem setSource_other {new : StrainSource} (h : s.smp.source ≠ new) (offset : Int) (cause : SourceCause) :
    s.setSource new offset cause =
      State.put (.source new cause) { s with smp := { s.smp with source := new, sourceOffset := offset } } := if_neg h

/-- Settles O39: the source by the averaging set, the raw strain by the source and what it needs. -/
theorem sourceAndRawStrain : Obligations.SourceAndRawStrain := by
  refine ⟨fun s => ?_, fun p zeroRef b => ⟨fun x y hx hy => ?_, ?_, fun x hx => ?_, fun hx => ?_, fun y hy => ?_, fun hy => ?_,
    rfl, rfl, fun source => rfl⟩⟩
  · intro source set
    have hsource : sourceOfSet s.averagingSet = source := sourceOfSet_eq s
    rw [State.followSet, hsource]
    rfl
  · simp only [rawStrain, hx, hy, elongStrain, averageElong]
  · rintro (h | h)
    · simp only [rawStrain, h]
    · cases ha : b.elongA <;> simp only [rawStrain, ha, h]
  · simp only [rawStrain, hx, Option.map_some, elongStrain]
  · simp only [rawStrain, hx, Option.map_none]
  · simp only [rawStrain, hy, Option.map_some, elongStrain]
  · simp only [rawStrain, hy, Option.map_none]

theorem sampledSinceStart_iff (m : Smp) : m.sampledSinceStart = true ↔ m.composedAtStart < m.composed := by
  simp [Smp.sampledSinceStart]

/-- The offset stays where nothing can be joined: no sample since TEST_START, or one without strain (R58). -/
theorem joinedOffset_kept (new : StrainSource)
    (h : s.smp.composed ≤ s.smp.composedAtStart ∨ s.smp.last.bind (fun l => l.sample.strain) = none) :
    s.joinedOffset new = s.smp.sourceOffset := by
  unfold State.joinedOffset
  obtain h | h := h
  · exact if_neg (by rw [sampledSinceStart_iff]; omega)
  · rw [h]
    exact ite_self _

theorem joinedOffset_joined {new : StrainSource} {strain old raw : Int} (hc : s.smp.composedAtStart < s.smp.composed)
    (hs : s.smp.last.bind (fun l => l.sample.strain) = some strain) (ho : s.lastRawStrain s.smp.source = some old)
    (hn : s.lastRawStrain new = some raw) : s.joinedOffset new = s.smp.sourceOffset + old - raw := by
  unfold State.joinedOffset
  rw [if_pos ((sampledSinceStart_iff _).mpr hc), hs, ho, hn]

/-! ### Exclusion and release in a test (R41, R58 to R61) -/

/-- The source of one arm alone (R42). -/
def soleSource : Arm → StrainSource
  | .a => .extA
  | .b => .extB

/-- The record of an arm at an exclusion (R41). -/
def State.excluded (w : Arm) (cause : ExclusionCause) (s : State) : State :=
  s.changeArm w { s.arm w with state := .excluded cause, capture := none }

theorem averagingSet_changeArm (w : Arm) (r : ArmRec) (s : State) : (s.changeArm w r).averagingSet =
    (match w with
      | .a => (r.inSet, s.xtc.armB.inSet)
      | .b => (s.xtc.armA.inSet, r.inSet)) := by
  cases w <;> simp [State.averagingSet, State.changeArm, State.setArm]

theorem excluded_testing (w : Arm) (cause : ExclusionCause) (s : State) : (s.excluded w cause).testing = s.testing :=
  testing_congr (by simp [State.excluded])

theorem excluded_smp (w : Arm) (cause : ExclusionCause) (s : State) : (s.excluded w cause).smp = s.smp := by
  simp [State.excluded]

theorem inSet_iff (r : ArmRec) : r.inSet = true ↔ r.state = .zeroed := by
  simp [ArmRec.inSet]

theorem averagingSet_excluded (w : Arm) (cause : ExclusionCause) (s : State) : (s.excluded w cause).averagingSet =
    (match w with
      | .a => (false, decide ((s.arm .b).state = .zeroed))
      | .b => (decide ((s.arm .a).state = .zeroed), false)) :=
  (averagingSet_changeArm w _ s).trans (by cases w <;> rfl)

/-- An exclusion in a test acts on the source when the arm leaves the averaging set of an extensometer source (R59, R61). -/
theorem excludeArm_testing (ht : s.testing = true) (w : Arm) (cause : ExclusionCause) : s.excludeArm w cause =
    if s.smp.source.isExt = true ∧ (s.arm w).state = .zeroed then
      if (s.arm (otherArm w)).state = .zeroed then
        if s.smp.source = .extAvg then (s.excluded w cause).fallBack (soleSource (otherArm w)) else s.excluded w cause
      else (s.excluded w cause).forceHandover
    else s.excluded w cause := by
  show (s.excluded w cause).sourceAtExclusion s.averagingSet = _
  unfold State.sourceAtExclusion
  rw [if_pos ((excluded_testing w cause s).trans ht), excluded_smp]
  have hleaves : ((s.excluded w cause).averagingSet ≠ s.averagingSet) ↔ (s.arm w).state = .zeroed := by
    rw [← inSet_iff, State.excluded, averagingSet_changeArm]
    cases w <;> simp [State.averagingSet, State.arm, ArmRec.inSet]
  by_cases hx : s.smp.source.isExt = true ∧ (s.arm w).state = .zeroed
  · rw [if_pos hx, if_pos (by simp [hx.1, hleaves.mpr hx.2])]
    rw [averagingSet_excluded]
    cases w with
    | a =>
      by_cases ho : (s.arm .b).state = .zeroed
      · rw [decide_eq_true ho, show otherArm .a = .b from rfl, if_pos ho]
        rfl
      · rw [decide_eq_false ho, show otherArm .a = .b from rfl, if_neg ho]
    | b =>
      by_cases ho : (s.arm .a).state = .zeroed
      · rw [decide_eq_true ho, show otherArm .b = .a from rfl, if_pos ho]
        rfl
      · rw [decide_eq_false ho, show otherArm .b = .a from rfl, if_neg ho]
  · rw [if_neg hx, if_neg (by simpa [← hleaves] using hx)]

theorem isExt_iff (x : StrainSource) : x.isExt = true ↔ x = .extAvg ∨ x = .extA ∨ x = .extB := by
  cases x <;> simp [StrainSource.isExt]

/-- A release report in a test that finds another source, or the same averaging set, changes nothing (R60). -/
theorem sourceAtRelease_kept (ht : s.testing = true) (before : Bool × Bool)
    (h : s.smp.source.isExt = false ∨ s.averagingSet = before) : s.sourceAtRelease before = s := by
  unfold State.sourceAtRelease
  rw [if_pos ht, if_neg]
  obtain h | h := h <;> simp [h]

theorem sourceAtRelease_emptied (ht : s.testing = true) {before : Bool × Bool} (hx : s.smp.source.isExt = true)
    (hset : s.averagingSet = (false, false)) (hne : s.averagingSet ≠ before) : s.sourceAtRelease before = s.handOver := by
  unfold State.sourceAtRelease
  rw [if_pos ht, if_pos (by simp [hx, hne]), hset]

theorem sourceAtRelease_fallback (ht : s.testing = true) {before : Bool × Bool} (w : Arm) (hx : s.smp.source = .extAvg)
    (hset : s.averagingSet = (decide (w = .a), decide (w = .b))) (hne : s.averagingSet ≠ before) :
    s.sourceAtRelease before = s.fallBack (soleSource w) := by
  unfold State.sourceAtRelease
  rw [if_pos ht, if_pos (by simp [hx, hne, StrainSource.isExt]), hset]
  cases w <;> exact if_pos hx

/-- Settles O38: exclusions by `excludeArm_testing`, releases by what they leave in the averaging set, the joined offset by
what the last sample has. -/
theorem exclusionAndJoin : Obligations.ExclusionAndJoin := by
  refine ⟨fun s which cause ht => ?_, fun s beforeA beforeB ht => ?_, fun s new => ⟨fun h => ?_, fun h => ?_, fun l hl h => ?_,
    fun l p old raw hc hl hs hp ho hn => ?_⟩⟩
  · intro out single
    have hout : out = s.excluded which cause := rfl
    have hsmp : out.smp = s.smp := excluded_smp which cause s
    have hsingle : single = soleSource (otherArm which) := by cases which <;> rfl
    have hexclude := excludeArm_testing ht which cause
    rw [← hout, ← hsingle] at hexclude
    rw [hexclude]
    refine ⟨fun hz => if_neg (fun h => hz h.2), fun hz => ⟨fun hsource => if_neg ?_, fun hsource ho => ?_, fun hsource ho => ?_,
      fun hsource ho => ?_⟩⟩
    · obtain h | h := hsource <;> simp [h, StrainSource.isExt]
    · have hext : s.smp.source.isExt = true := (isExt_iff _).mpr (by rw [hsource]; cases which <;> simp [single])
      rw [if_pos ⟨hext, hz⟩, if_pos ho, if_neg (by rw [hsource]; cases which <;> simp [single])]
    · rw [if_pos ⟨(isExt_iff _).mpr (.inl hsource), hz⟩, if_pos ho, if_pos hsource, State.fallBack]
      exact setSource_other (by rw [hsmp, hsource]; cases which <;> simp [single]) _ _
    · rw [if_pos ⟨(isExt_iff _).mpr hsource, hz⟩, if_neg ho]
      unfold State.forceHandover
      rw [setSource_other]
      rw [hsmp]
      obtain h | h | h := hsource <;> simp [h]
  · intro inSet t told ext changed
    have hset : s.averagingSet = (inSet .a, inSet .b) := rfl
    have hne : changed → s.averagingSet ≠ (beforeA, beforeB) := fun hc h => by
      rw [hset, Prod.mk.injEq] at h
      exact hc.elim (· h.1) (· h.2)
    refine ⟨fun h => sourceAtRelease_kept ht _ (.inl (by rw [h]; rfl)), fun h => sourceAtRelease_kept ht _ (.inr ?_),
      fun hx hc ha hb => ?_, fun hx hc ha hb => ?_, fun hx hc ha hb => ?_⟩
    · simp only [changed, not_or, not_not] at h
      rw [hset, h.1, h.2]
    · refine (sourceAtRelease_emptied ht ((isExt_iff _).mpr hx) (by rw [hset, ha, hb]) (hne hc)).trans ?_
      unfold State.handOver
      rw [setSource_other (by obtain h | h | h := hx <;> simp [h])]
    · refine (sourceAtRelease_fallback ht .a hx (by rw [hset, ha, hb] <;> rfl) (hne hc)).trans ?_
      exact setSource_other (by simp [hx, soleSource]) _ _
    · refine (sourceAtRelease_fallback ht .b hx (by rw [hset, ha, hb] <;> rfl) (hne hc)).trans ?_
      exact setSource_other (by simp [hx, soleSource]) _ _
  · exact joinedOffset_kept new (.inl h)
  · exact joinedOffset_kept new (.inr (by rw [h]; rfl))
  · exact joinedOffset_kept new (.inr (by rw [hl]; exact h))
  · obtain ⟨strain, hstrain⟩ := Option.ne_none_iff_exists'.mp hs
    have hraw : ∀ source, s.lastRawStrain source = rawStrain (some p) s.smp.zeroRef l.basis source := fun source => by
      unfold State.lastRawStrain
      rw [hl, hp]
      rfl
    have hjoined := joinedOffset_joined hc (by rw [hl]; exact hstrain) ((hraw _).trans ho) ((hraw _).trans hn)
    exact ⟨hjoined, by omega⟩

/-! ### Conversions (R27 to R29, R39) -/

theorem setArm_setArm (w : Arm) (r q : ArmRec) (s : State) : (s.setArm w r).setArm w q = s.setArm w q := by
  cases w <;> rfl

theorem setArm_arm (w : Arm) (s : State) : s.setArm w (s.arm w) = s := by
  cases w <;> rfl

theorem changeArm_setArm (w : Arm) (r q : ArmRec) (s : State) : (s.setArm w r).changeArm w q = s.changeArm w q := by
  rw [State.changeArm, setArm_setArm, ← State.changeArm]

/-- The record of an arm with the raw code of a conversion (R27). -/
def State.converted (w : Arm) (c : Int) (s : State) : ArmRec := { s.arm w with lastRaw := some c }

theorem extConversion_stored (w : Arm) (c : Int) (hz : (s.arm w).state ≠ .zeroing) (hd : (s.arm w).state ≠ .zeroed) :
    s.extConversion w c = s.setArm w (s.converted w c) := by
  unfold State.extConversion
  cases h : (s.arm w).state with
  | zeroing => exact absurd h hz
  | zeroed => exact absurd h hd
  | _ => rfl

theorem extConversion_zeroing (w : Arm) (c : Int) (h : (s.arm w).state = .zeroing) :
    s.extConversion w c = (s.setArm w (s.converted w c)).zeroConversion w c := by
  unfold State.extConversion
  rw [h]
  rfl

theorem extConversion_zeroed (w : Arm) (c : Int) (h : (s.arm w).state = .zeroed) :
    s.extConversion w c = (s.setArm w (s.converted w c)).zeroedConversion w c := by
  unfold State.extConversion
  rw [h]
  rfl

/-- A conversion into a zero capture in progress (R39). -/
theorem zeroConversion_setArm (w : Arm) (c : Int) (r : ArmRec) {k : ZeroCapture} (hk : r.capture = some k) :
    (s.setArm w r).zeroConversion w c =
      if saturatedCode c = true then (s.changeArm w { r with state := .seated, capture := none }).sourceAtArmChange
      else if k.taken + 1 = 8 then
        (s.changeArm w { r with state := .zeroed, capture := none,
                                zeroCode := some (roundDiv (k.sum + c) 8) }).sourceAtArmChange
      else s.setArm w { r with capture := some ⟨k.taken + 1, k.sum + c⟩ } := by
  unfold State.zeroConversion
  dsimp only
  rw [arm_setArm, hk]
  simp only [changeArm_setArm, setArm_setArm]

/-- A conversion of a ZEROED arm (R28, R29). -/
theorem zeroedConversion_setArm (w : Arm) (c : Int) (r : ArmRec) :
    (s.setArm w r).zeroedConversion w c =
      if s.tsq.state.sampling = true then
        match r.exclusion c, r.elongationOf c with
        | some cause, _ => (s.setArm w r).excludeArm w cause
        | none, some x => s.setArm w { r with lastElong := some x }
        | none, none => s.setArm w r
      else s.setArm w (r.flagged c) := by
  unfold State.zeroedConversion
  dsimp only
  rw [arm_setArm, setArm_tsq, setArm_setArm]
  congr 1
  cases r.exclusion c <;> cases r.elongationOf c <;> simp only [setArm_setArm]

theorem elongationOf_saturated (r : ArmRec) {c : Int} (hc : saturatedCode c = true) : r.elongationOf c = none := if_pos hc

theorem elongationOf_of {r : ArmRec} {c zero scale : Int} (hc : ¬ saturatedCode c = true) (hz : r.zeroCode = some zero)
    (hs : r.scale = some scale) : r.elongationOf c = some (roundDiv ((c - zero) * scale) 1048576) := by
  unfold ArmRec.elongationOf
  rw [if_neg hc, hz, hs]
  rfl

theorem slipped_iff {r : ArmRec} {x most : Int} (hm : r.slipThreshold = some most) :
    r.slipped x = true ↔ ∃ l : Int, r.lastElong = some l ∧ most < ((x - l).natAbs : Int) := by
  unfold ArmRec.slipped
  rw [hm]
  cases r.lastElong <;> simp [absDiff]

theorem overSpan_iff {r : ArmRec} {x span : Int} (hs : r.span = some span) :
    r.overSpan x = true ↔ span < (x.natAbs : Int) := by
  unfold ArmRec.overSpan
  rw [hs]
  exact decide_eq_true_iff

/-- Settles O37: by the state of the arm, then by the class of the code, the slip and the span. -/
theorem extConversion : Obligations.ExtConversion := by
  refine ⟨fun s which raw => ?_, fun s which raw zero scale span slipMax => ?_⟩
  · intro stored saturated go
    have hsat : saturatedCode raw.toInt = true ↔ saturated := saturatedCode_iff raw.toInt
    refine ⟨fun hz hd => congrArg Host.Outcome.next (extConversion_stored which _ hz hd), fun k hz hk => ?_⟩
    have hconv : exec (.extConversion which raw) s = .next _ := congrArg Host.Outcome.next
      ((extConversion_zeroing which raw.toInt hz).trans (zeroConversion_setArm which raw.toInt stored hk))
    rw [hconv]
    refine ⟨fun hs => ?_, fun hs ht => ?_, fun hs ht => ?_⟩
    · rw [if_pos (hsat.mpr hs)]
      rfl
    · rw [if_neg (hs ∘ hsat.mp), if_neg (by omega)]
    · rw [if_neg (hs ∘ hsat.mp), if_pos (by omega)]
      rfl
  · intro r stored saturated x slips beyond hd hzero hscale hspan hslip
    have hsat : saturatedCode raw.toInt = true ↔ saturated := saturatedCode_iff raw.toInt
    have hslips : stored.slipped x = true ↔ slips := slipped_iff hslip
    have hbeyond : stored.overSpan x = true ↔ beyond := overSpan_iff hspan
    have helong : ¬ saturated → stored.elongationOf raw.toInt = some x := fun hs =>
      elongationOf_of (hs ∘ hsat.mp) hzero hscale
    have hnone : saturated → stored.elongationOf raw.toInt = none := fun hs => elongationOf_saturated _ (hsat.mpr hs)
    have hconv : exec (.extConversion which raw) s = .next _ := congrArg Host.Outcome.next
      ((extConversion_zeroed which raw.toInt hd).trans (zeroedConversion_setArm which raw.toInt stored))
    rw [hconv]
    refine ⟨fun hf hs => ?_, fun hf hs => ?_, fun hr hs hn hb => ?_, fun hr hs hy => ?_, fun hr h => ?_⟩
    · rw [if_neg (by rw [hf]; decide)]
      unfold ArmRec.flagged
      rw [hnone hs]
      exact congrArg (fun q => Host.Outcome.next (s.setArm which q)) (if_pos (hsat.mpr hs))
    · rw [if_neg (by rw [hf]; decide)]
      refine ⟨_, rfl, ?_⟩
      unfold ArmRec.flagged
      rw [helong hs]
      exact ⟨rfl, hbeyond, by rw [Bool.or_eq_true, hslips]⟩
    · have hex : stored.exclusion raw.toInt = none := by
        unfold ArmRec.exclusion
        rw [helong hs]
        exact (if_neg (hn ∘ hslips.mp)).trans (if_neg (hb ∘ hbeyond.mp))
      rw [if_pos hr, hex, helong hs]
    · have hex : stored.exclusion raw.toInt = some .slip := by
        unfold ArmRec.exclusion
        rw [helong hs]
        exact if_pos (hslips.mpr hy)
      rw [if_pos hr, hex]
    · have hex : stored.exclusion raw.toInt = some .overrange := by
        unfold ArmRec.exclusion
        by_cases hs : saturated
        · rw [hnone hs]
          exact if_pos (hsat.mpr hs)
        · obtain ⟨hn, hb⟩ := h.resolve_left hs
          rw [helong hs]
          exact (if_neg (hn ∘ hslips.mp)).trans (if_pos (hbeyond.mpr hb))
      rw [if_pos hr, hex]

/-! ### Seat inputs and timers (R31, R33, R36, R37, R45, R46, R101) -/

/-- A change of an arm's state that is told to SMP: outside a test the source follows the set (R30, R56). -/
theorem changeArm_told (w : Arm) (r : ArmRec) (s : State) : (s.changeArm w r).sourceAtArmChange =
    if s.testing = true then s.changeArm w r else (s.changeArm w r).followSet .set := by
  have htest : (s.changeArm w r).testing = s.testing := testing_congr (by simp)
  rw [State.sourceAtArmChange, htest]

theorem excludeArm_outside (ht : s.testing = false) (w : Arm) (cause : ExclusionCause) :
    s.excludeArm w cause = (s.excluded w cause).followSet .set := by
  show (s.excluded w cause).sourceAtExclusion s.averagingSet = _
  unfold State.sourceAtExclusion
  exact if_neg (by rw [excluded_testing, ht]; decide)

/-- A seat that opens under a SEATED, ZEROING or ZEROED arm excludes it (R31). -/
theorem seatChanged_lost (w : Arm) (h : (s.arm w).state.zeroable = true) :
    s.seatChanged w false = s.excludeArm w .seatLost := by
  unfold State.seatChanged
  cases hstate : (s.arm w).state <;> simp_all [ArmState.zeroable]

theorem seatChanged_seating (w : Arm) (h : (s.arm w).state = .seating) : s.seatChanged w true =
    (s.changeArm w { s.arm w with state := .seated, timer := none }).sourceAtArmChange := by
  unfold State.seatChanged
  dsimp only
  rw [h]

theorem seatChanged_releasing (w : Arm) (h : (s.arm w).state = .releasing) : s.seatChanged w false =
    (s.changeArm w { s.arm w with state := .opened, timer := none }).sourceAtArmChange := by
  unfold State.seatChanged
  dsimp only
  rw [h]

theorem seatChanged_closed_other (w : Arm) (h : (s.arm w).state ≠ .seating) : s.seatChanged w true = s := by
  unfold State.seatChanged
  cases hstate : (s.arm w).state <;> simp_all

theorem seatChanged_opened_other (w : Arm) (hz : (s.arm w).state.zeroable = false) (hr : (s.arm w).state ≠ .releasing) :
    s.seatChanged w false = s := by
  unfold State.seatChanged
  cases hstate : (s.arm w).state <;> simp_all [ArmState.zeroable]

theorem pullInEnd_other (w : Arm) (h : (s.arm w).solenoid ≠ .pullIn s.dio.partTime) : s.pullInEnd w = s := by
  unfold State.pullInEnd
  cases hsol : (s.arm w).solenoid with
  | pullIn ends => exact if_neg fun he => h (by rw [hsol, he])
  | _ => rfl

theorem seatTimeout_other (w : Arm) (h : (s.arm w).state ≠ .seating ∨ (s.arm w).timer ≠ some s.dio.partTime) :
    s.seatTimeout w = s := if_neg fun hd => h.elim (· hd.1) (· hd.2)

theorem releaseTimeout_other (w : Arm) (h : (s.arm w).state ≠ .releasing ∨ (s.arm w).timer ≠ some s.dio.partTime) :
    s.releaseTimeout w = s := if_neg fun hd => h.elim (· hd.1) (· hd.2)

theorem seatTimeout_due (w : Arm) (h : (s.arm w).state = .seating) (hd : (s.arm w).timer = some s.dio.partTime) :
    s.seatTimeout w = (s.changeArm w
      { s.arm w with state := .fault .seatTimeout, solenoid := .off, timer := none }).sourceAtArmChange := if_pos ⟨h, hd⟩

theorem releaseTimeout_due (w : Arm) (h : (s.arm w).state = .releasing) (hd : (s.arm w).timer = some s.dio.partTime) :
    s.releaseTimeout w = (s.changeArm w
      { s.arm w with state := .fault .releaseTimeout, timer := none }).sourceAtArmChange := if_pos ⟨h, hd⟩

/-- Settles O36: by the state of the arm and its solenoid, and by whether the part is in a test state. -/
theorem seatInputsAndArmTimers : Obligations.SeatInputsAndArmTimers := by
  refine ⟨fun s which => ?_, fun s which => ?_⟩
  · intro r put go lost
    have hgo : ∀ q, go q = (s.changeArm which q).sourceAtArmChange := fun q => (changeArm_told which q s).symm
    refine ⟨fun h => ?_, fun ht h => ?_, fun ht h => ?_, fun h => ?_, fun h => ?_, seatChanged_closed_other which,
      seatChanged_opened_other which⟩
    · exact (seatChanged_seating which h).trans (hgo _).symm
    · rw [seatChanged_lost which (by obtain h | h | h := h <;> exact congrArg ArmState.zeroable h), excludeArm_outside ht]
      exact (if_neg (by rw [ht]; decide)).symm
    · rw [seatChanged_lost which (by obtain h | h := h <;> exact congrArg ArmState.zeroable h), excludeArm_testing ht, if_neg]
      · rfl
      · rintro ⟨-, hz⟩
        obtain h | h := h <;> exact absurd (h.symm.trans hz) (by decide)
    · exact seatChanged_lost which (congrArg ArmState.zeroable h)
    · exact (seatChanged_releasing which h).trans (hgo _).symm
  · intro r
    refine ⟨fun h => ?_, fun h => congrArg Host.Outcome.next (pullInEnd_other which h), fun c h => ?_, fun ht h hd => ?_,
      fun ht h hd => ?_, fun ht h hd => ?_, fun h => congrArg Host.Outcome.next (seatTimeout_other which h),
      fun h => congrArg Host.Outcome.next (releaseTimeout_other which h)⟩
    · refine congrArg Host.Outcome.next ?_
      unfold State.pullInEnd
      rw [show (s.arm which).solenoid = _ from h]
      exact if_pos rfl
    · refine congrArg Host.Outcome.next ?_
      unfold State.holdPhaseEnd
      rw [show (s.arm which).solenoid = _ from h]
    · exact congrArg Host.Outcome.next ((seatTimeout_due which h hd).trans
        ((changeArm_told which _ s).trans (if_neg (by rw [ht]; decide))))
    · exact congrArg Host.Outcome.next ((releaseTimeout_due which h hd).trans
        ((changeArm_told which _ s).trans (if_neg (by rw [ht]; decide))))
    · exact congrArg Host.Outcome.next ((releaseTimeout_due which h hd).trans
        ((changeArm_told which _ s).trans (if_pos ht)))

end Sys2Proof.Machine
end

section
/-! SUPPORT. EXT_SEAT, EXT_ZERO and EXT_RELEASE (chapter Extensometer Arms). -/

namespace Sys2Proof.Machine

variable {s t : State}

/-! ### The named arms (section 11.8) -/

theorem armSelectOf_of {b : Byte} (h : 1 ≤ b.toNat) (h3 : b.toNat ≤ 3) :
    armSelectOf b = some (decide (b.toNat ≠ 2), decide (b.toNat ≠ 1)) := by
  unfold armSelectOf
  obtain h | h | h : b.toNat = 1 ∨ b.toNat = 2 ∨ b.toNat = 3 := by omega
  all_goals rw [h] <;> rfl

theorem armSelectOf_none {b : Byte} (h : ¬ (1 ≤ b.toNat ∧ b.toNat ≤ 3)) : armSelectOf b = none := by
  unfold armSelectOf
  split
  · omega
  · omega
  · omega
  · rfl

theorem armSelectOf_single {b : Byte} {w : Arm} (h : b.toNat = (match w with | .a => 1 | .b => 2)) :
    armSelectOf b = some (decide (w = .a), decide (w = .b)) := by
  unfold armSelectOf
  rw [h]
  cases w <;> rfl

theorem sourceAtArmChange_outside (ht : s.testing = false) : s.sourceAtArmChange = s.followSet .set :=
  if_neg (by rw [ht]; decide)

theorem sourceAtRelease_outside (ht : s.testing = false) (before : Bool × Bool) :
    s.sourceAtRelease before = s.followSet .set := if_neg (by rw [ht]; decide)

/-- Where the source is already that of the set, nothing changes (R56). -/
theorem followSet_same (hs : s.smp.source = sourceOfSet s.averagingSet) (ho : s.smp.sourceOffset = 0) (cause : SourceCause) :
    s.followSet cause = s := by
  rw [State.followSet, setSource_same hs, ← hs, ← ho]

/-! ### EXT_RELEASE (R43 to R45) -/

theorem releaseArm_of {applies request : Bool} {w : Arm}
    (h : applies = true ∧ (s.arm w).state.releasable request = true) :
    s.releaseArm applies request w = s.enterReleasing w := by
  rw [releaseArm_eq, if_pos h, enterReleasing_eq]

theorem releaseArm_not {applies request : Bool} {w : Arm}
    (h : ¬ (applies = true ∧ (s.arm w).state.releasable request = true)) : s.releaseArm applies request w = s := by
  rw [releaseArm_eq, if_neg h]

theorem releaseArms_testing (a b request : Bool) (s : State) : (s.releaseArms a b request).testing = s.testing :=
  testing_congr (by simp)

theorem releasable_request_iff (a : ArmState) : a.releasable true = true ↔ ¬ (a = .opened ∨ a = .releasing) := by
  cases a <;> simp [ArmState.releasable]

/-- A release of one named arm on request (R43, R44). -/
theorem releaseArms_single (w : Arm) (s : State) : s.releaseArms (decide (w = .a)) (decide (w = .b)) true =
    if (s.arm w).state = .opened ∨ (s.arm w).state = .releasing then s else s.enterReleasing w := by
  have hone : ∀ v : Arm, s.releaseArm true true v =
      if (s.arm v).state = .opened ∨ (s.arm v).state = .releasing then s else s.enterReleasing v := fun v => by
    by_cases h : (s.arm v).state = .opened ∨ (s.arm v).state = .releasing
    · rw [if_pos h, releaseArm_not fun hr => (releasable_request_iff _).mp hr.2 h]
    · rw [if_neg h, releaseArm_of ⟨rfl, (releasable_request_iff _).mpr h⟩]
  rw [← hone]
  unfold State.releaseArms
  cases w with
  | a => exact releaseArm_not (by simp)
  | b => exact congrArg (State.releaseArm true true .b) (releaseArm_not (by simp))

theorem exec_extRelease (hf : s.lnk.free) (tag : Byte) {select : Byte} {named : Bool × Bool}
    (h : armSelectOf select = some named) : exec (.extRelease tag select) s =
      .next (State.acked 0x11 tag [armStateCode (s.releaseStart named.1 named.2 true).xtc.armA.state,
        armStateCode (s.releaseStart named.1 named.2 true).xtc.armB.state] (s.releaseStart named.1 named.2 true)) := by
  refine exec_acked hf (.extRelease select) tag rfl ?_
  show s.extRelease select = _
  rw [State.extRelease, h]
  rfl

/-- Settles O35: by the arms that a release start moves. -/
theorem extReleaseOneArm : Obligations.ExtReleaseOneArm := by
  refine ⟨fun s which => ?_, fun s tag select which hf => ⟨fun h => ?_, fun ht h => ?_⟩, fun s onA onB request => ?_⟩
  · exact enterReleasing_eq which s
  · refine exec_refused hf (.extRelease select) tag rfl ?_
    show s.extRelease select = _
    rw [State.extRelease, armSelectOf_none h]
    rfl
  · intro moved t
    have hrelease : s.releaseStart (decide (which = .a)) (decide (which = .b)) true = t := by
      unfold State.releaseStart
      rw [sourceAtRelease_outside ((releaseArms_testing _ _ _ s).trans ht)]
      exact congrArg (State.followSet .set) (releaseArms_single which s)
    rw [exec_extRelease hf tag (armSelectOf_single h), hrelease]
  · intro on moves release moved inSet
    have hmoved : s.releaseArms onA onB request = moved := by
      have hrelease : ∀ which (t : State), t.arm which = s.arm which →
          t.releaseArm (on which) request which = release which t := fun which t h => by
        have hmoves : moves which = true ↔ on which = true ∧ (t.arm which).state.releasable request = true := by
          unfold moves
          rw [h]
          cases (s.arm which).state <;> simp [ArmState.releasable]
        rw [releaseArm_eq, ← enterReleasing_eq]
        exact if_congr hmoves.symm rfl rfl
      have hfirst : s.releaseArm onA request .a = release .a s := hrelease .a s rfl
      rw [State.releaseArms, hrelease .b _ (arm_releaseArm_other (by decide) _ _ s), hfirst]
    refine ⟨fun ht => ?_, fun ht => ?_, fun tag select hf h h3 => ?_⟩
    · unfold State.releaseStart
      rw [sourceAtRelease_outside ((releaseArms_testing _ _ _ s).trans ht), hmoved]
    · unfold State.releaseStart
      rw [hmoved]
      rfl
    · exact exec_extRelease hf tag (armSelectOf_of h h3)

/-! ### EXT_ZERO (R38) -/

/-- The record of an arm that starts a fresh zero capture (R38). -/
def State.zeroingArm (w : Arm) (s : State) : ArmRec :=
  { s.arm w with state := .zeroing, zeroCode := none, lastElong := none, slip := false, overrange := false,
                 capture := some ⟨0, 0⟩ }

theorem zeroable_iff (a : ArmState) : a.zeroable = true ↔ a = .seated ∨ a = .zeroing ∨ a = .zeroed := by
  cases a <;> simp [ArmState.zeroable]

theorem zeroArm_eq (named : Bool) (w : Arm) (s : State) : s.zeroArm named w =
    if named = true ∧ (s.arm w).state.zeroable = true then
      if (s.arm w).state = .zeroing then s.setArm w (s.zeroingArm w) else s.changeArm w (s.zeroingArm w)
    else s := by
  unfold State.zeroArm
  dsimp only
  simp only [Bool.and_eq_true]
  rfl

theorem arm_zeroArm_other {v w : Arm} (h : v ≠ w) (named : Bool) (s : State) : (s.zeroArm named w).arm v = s.arm v := by
  rw [zeroArm_eq]
  split
  · split
    · exact arm_setArm_other h _ s
    · exact arm_changeArm_other h _ s
  · rfl

theorem zeroArms_testing (a b : Bool) (s : State) : ((s.zeroArm a .a).zeroArm b .b).testing = s.testing :=
  testing_congr (by simp)

theorem namedZeroable_iff (named : Bool × Bool) (s : State) : s.namedZeroable named = true ↔
    (named.1 = true ∧ (s.arm .a).state.zeroable = true) ∨ (named.2 = true ∧ (s.arm .b).state.zeroable = true) := by
  simp [State.namedZeroable, State.arm]

theorem extZero_testing (ht : s.testing = true) (select : Byte) : s.extZero select = (s, .no .state) := if_pos ht

theorem extZero_refused (ht : s.testing = false) {select : Byte} {named : Bool × Bool}
    (h : armSelectOf select = some named) (hn : ¬ s.namedZeroable named = true) :
    s.extZero select = (s, .no .notSeated) := by
  unfold State.extZero
  rw [if_neg (by rw [ht]; decide), h]
  exact if_neg hn

/-- EXT_ZERO of arms of which some can be zeroed (R38). -/
theorem extZero_zeroed (ht : s.testing = false) {select : Byte} {named : Bool × Bool}
    (h : armSelectOf select = some named) (hn : s.namedZeroable named = true) {zeroed : State}
    (hz : (s.zeroArm named.1 .a).zeroArm named.2 .b = zeroed) :
    s.extZero select = (zeroed.followSet .set, (zeroed.followSet .set).armAnswer) := by
  have harms : s.zeroArms named = zeroed.followSet .set := by
    rw [State.zeroArms, sourceAtArmChange_outside ((zeroArms_testing _ _ s).trans ht), hz]
  unfold State.extZero
  rw [if_neg (by rw [ht]; decide), h]
  refine (if_pos hn).trans ?_
  rw [harms]

/-- The zeroing of one named arm (R38). -/
theorem zeroArm_single (w : Arm) (s : State) :
    (s.zeroArm (decide (w = .a)) .a).zeroArm (decide (w = .b)) .b = s.zeroArm true w := by
  cases w with
  | a => exact (zeroArm_eq _ _ _).trans (if_neg (by simp))
  | b => exact congrArg (State.zeroArm true .b) ((zeroArm_eq _ _ _).trans (if_neg (by simp)))

theorem namedZeroable_single (w : Arm) (s : State) :
    s.namedZeroable (decide (w = .a), decide (w = .b)) = true ↔ (s.arm w).state.zeroable = true := by
  rw [namedZeroable_iff]
  cases w <;> simp

/-- Settles O34: by the state of each named arm. -/
theorem extZeroOneArm : Obligations.ExtZeroOneArm := by
  refine ⟨fun s tag select which hf hselect => ?_, fun s tag select hf => ?_⟩
  · intro r fresh reply
    have hnamed := armSelectOf_single hselect
    have hzeroable : s.namedZeroable _ = true ↔ _ := (namedZeroable_single which s).trans (zeroable_iff r.state)
    have hzeroed : r.state.zeroable = true → s.zeroArm true which =
        if r.state = .zeroing then s.setArm which fresh else s.changeArm which fresh := fun h =>
      (zeroArm_eq true which s).trans (if_pos ⟨rfl, h⟩)
    refine ⟨fun ht => exec_refused hf (.extZero select) tag rfl (extZero_testing ht select), fun ht h1 h2 h3 => ?_,
      fun ht h => ?_, fun ht h => ?_⟩
    · exact exec_refused hf (.extZero select) tag rfl
        (extZero_refused ht hnamed fun h => (hzeroable.mp h).elim h1 (fun h => h.elim h2 h3))
    · have hz : r.state.zeroable = true := (zeroable_iff _).mpr (h.elim .inl (fun h => .inr (.inr h)))
      have hne : r.state ≠ .zeroing := by obtain h | h := h <;> rw [h] <;> decide
      exact exec_acked hf (.extZero select) tag rfl (extZero_zeroed ht hnamed ((namedZeroable_single which s).mpr hz)
        ((zeroArm_single which s).trans ((hzeroed hz).trans (if_neg hne))))
    · have hz : r.state.zeroable = true := (zeroable_iff _).mpr (.inr (.inl h))
      exact exec_acked hf (.extZero select) tag rfl (extZero_zeroed ht hnamed ((namedZeroable_single which s).mpr hz)
        ((zeroArm_single which s).trans ((hzeroed hz).trans (if_pos h))))
  · intro named zeroes zero t
    have hnamed : 1 ≤ select.toNat → select.toNat ≤ 3 → armSelectOf select = some (named .a, named .b) := fun h h3 => by
      rw [armSelectOf_of h h3]
      exact congrArg some (Prod.ext (decide_eq_decide.mpr (by omega)) (decide_eq_decide.mpr (by omega)))
    have hzeroes : ∀ w, zeroes w = true ↔ named w = true ∧ (s.arm w).state.zeroable = true := fun w => by
      simp only [zeroes, zeroable_iff, Bool.and_eq_true, decide_eq_true_eq, List.mem_cons, List.not_mem_nil, or_false]
    have hany : s.namedZeroable (named .a, named .b) = true ↔ zeroes .a = true ∨ zeroes .b = true :=
      (namedZeroable_iff _ s).trans (or_congr (hzeroes .a).symm (hzeroes .b).symm)
    have hzero : ∀ w (u : State), u.arm w = s.arm w → u.zeroArm (named w) w = zero w u := fun w u hu => by
      have hfresh : u.zeroingArm w = s.zeroingArm w := by rw [State.zeroingArm, hu, ← State.zeroingArm]
      rw [zeroArm_eq, hfresh, hu]
      exact if_congr (hzeroes w).symm rfl rfl
    refine ⟨fun ht => exec_refused hf (.extZero select) tag rfl (extZero_testing ht select), fun ht h => ?_,
      fun ht h h3 ha hb => ?_, fun ht h => ?_⟩
    · refine exec_refused hf (.extZero select) tag rfl ?_
      show s.extZero select = _
      rw [State.extZero, if_neg (by rw [ht]; decide), armSelectOf_none h]
      rfl
    · exact exec_refused hf (.extZero select) tag rfl (extZero_refused ht (hnamed h h3) fun hz =>
        (hany.mp hz).elim (fun h => by rw [ha] at h; cases h) (fun h => by rw [hb] at h; cases h))
    · obtain ⟨h1, h3⟩ : 1 ≤ select.toNat ∧ select.toNat ≤ 3 := by
        obtain h | h := h
        · have hsel := of_decide_eq_true ((hzeroes .a).mp h).1
          omega
        · have hsel := of_decide_eq_true ((hzeroes .b).mp h).1
          omega
      have hfirst : s.zeroArm (named .a) .a = zero .a s := hzero .a s rfl
      refine exec_acked hf (.extZero select) tag rfl (extZero_zeroed ht (hnamed h1 h3) (hany.mpr h) ?_)
      rw [hzero .b _ (arm_zeroArm_other (by decide) _ s), hfirst]

/-! ### EXT_SEAT (R33 to R36) -/

/-- The record of an arm that is seated: pulling in, SEATING with its timeout, or SEATED at once (R33, R36). -/
def State.seatedArm (w : Arm) (s : State) : ArmRec :=
  { s.arm w with
    solenoid := .pullIn (s.timeAfter s.xtc.pullInTime)
    state := if s.seatClosed w then .seated else .seating
    timer := if s.seatClosed w then none else some (s.timeAfter s.xtc.seatTimeout) }

/-- The record of the other arm, whose solenoid at HOLD is re-struck (R34). -/
def State.restruckArm (w : Arm) (s : State) : ArmRec := reStrike (s.timeAfter s.xtc.pullInTime) (s.arm w)

theorem ne_otherArm (w : Arm) : w ≠ otherArm w := by cases w <;> decide

theorem enterSeating_eq (w : Arm) (s : State) : s.enterSeating w =
    (s.setArm (otherArm w) (s.restruckArm (otherArm w))).changeArm w (s.seatedArm w) := by
  unfold State.enterSeating State.seatedArm
  dsimp only
  rw [arm_setArm_other (ne_otherArm w)]
  split <;> rfl

theorem seatArm_of {named : Bool} {w : Arm} (h : (named && (s.arm w).state.seatable) = true) :
    s.seatArm named w = s.enterSeating w := if_pos h

theorem seatArm_not {named : Bool} {w : Arm} (h : ¬ (named && (s.arm w).state.seatable) = true) :
    s.seatArm named w = s := if_neg h

/-- A put reads and changes nothing of XTC. -/
theorem put_withXtc (x : Xtc) (e : Event) (s : State) : State.put e { s with xtc := x } = { s.put e with xtc := x } := by
  unfold State.put
  split <;> rfl

theorem put_setArm (w : Arm) (r : ArmRec) (e : Event) (s : State) : (s.put e).setArm w r = (s.setArm w r).put e := by
  cases w <;> simp only [State.setArm, put_xtc, put_withXtc]

/-- The record of an arm after EXT_SEAT, by whether it is moved and whether the other one is (R34, R36). -/
def State.afterSeat (moved other : Bool) (w : Arm) (s : State) : ArmRec :=
  if moved then s.seatedArm w else if other then s.restruckArm w else s.arm w

/-- The event of an arm at EXT_SEAT (R30). -/
def State.seatEvents (moved : Bool) (w : Arm) (s : State) : List Event :=
  if moved then [.arm w (s.seatedArm w).state] else []

/-- The two arms after EXT_SEAT has moved some of them, arm A before arm B. -/
def State.seatedPair (a b : Bool) (s : State) : State :=
  State.putAll (s.seatEvents a .a ++ s.seatEvents b .b)
    { s with xtc := { s.xtc with armA := s.afterSeat a b .a, armB := s.afterSeat b a .b } }

theorem restruckArm_state (w : Arm) (s : State) : (s.restruckArm w).state = (s.arm w).state := by
  unfold State.restruckArm reStrike
  split <;> rfl

theorem seatedArm_put (w : Arm) (e : Event) (s : State) : (s.put e).seatedArm w = s.seatedArm w := by
  unfold State.put
  split <;> rfl

theorem restruckArm_put (w : Arm) (e : Event) (s : State) : (s.put e).restruckArm w = s.restruckArm w := by
  simp only [State.restruckArm, State.timeAfter, put_dio, put_xtc, arm_put]

/-- Seating sets the solenoid, so that a re-strike before it leaves no trace. -/
theorem seatedArm_restruck (r : ArmRec) (s : State) :
    ((s.setArm .b (s.restruckArm .b)).setArm .a r).seatedArm .b = s.seatedArm .b := by
  simp only [State.restruckArm, State.arm, State.setArm]
  unfold reStrike
  split <;> rfl

/-- Arm B seated after arm A: arm A is pulling in and not re-struck (R34). -/
theorem enterSeating_both (s : State) : (s.enterSeating .a).enterSeating .b = s.seatedPair true true := by
  have ha : ((s.setArm .b (s.restruckArm .b)).setArm .a (s.seatedArm .a)).restruckArm .a = s.seatedArm .a := rfl
  rw [enterSeating_eq .a, enterSeating_eq .b, State.changeArm, State.changeArm, otherArm, otherArm, restruckArm_put,
    seatedArm_put, ha, seatedArm_restruck, put_setArm, put_setArm]
  rfl

theorem seatArms_pair (a b : Bool) (s : State) : (s.seatArm a .a).seatArm b .b =
    s.seatedPair (a && (s.arm .a).state.seatable) (b && (s.arm .b).state.seatable) := by
  have hb : ((s.seatArm a .a).arm .b).state = (s.arm .b).state := by
    unfold State.seatArm
    split
    · rw [enterSeating_eq, arm_changeArm_other (by decide)]
      exact (congrArg ArmRec.state (arm_setArm .b _ s)).trans (restruckArm_state .b s)
    · rfl
  by_cases hma : (a && (s.arm .a).state.seatable) = true
  · rw [seatArm_of hma] at hb ⊢
    rw [hma]
    by_cases hmb : (b && (s.arm .b).state.seatable) = true
    · rw [seatArm_of (by rw [hb, hmb]), hmb, enterSeating_both]
    · rw [seatArm_not (by rw [hb]; exact hmb), Bool.eq_false_iff.mpr hmb, enterSeating_eq]
      rfl
  · rw [seatArm_not hma, Bool.eq_false_iff.mpr hma]
    by_cases hmb : (b && (s.arm .b).state.seatable) = true
    · rw [seatArm_of hmb, hmb, enterSeating_eq]
      rfl
    · rw [seatArm_not hmb, Bool.eq_false_iff.mpr hmb]
      rfl

theorem namedEnabled_iff (named : Bool × Bool) (s : State) : s.namedEnabled named = true ↔
    (named.1 = true → s.xtc.armA.enabled = true) ∧ (named.2 = true → s.xtc.armB.enabled = true) := by
  obtain ⟨a, b⟩ := named
  cases a <;> cases b <;> simp [State.namedEnabled]

theorem seatArms_testing (a b : Bool) (s : State) : ((s.seatArm a .a).seatArm b .b).testing = s.testing :=
  testing_congr (by simp)

theorem extSeat_testing (ht : s.testing = true) (select : Byte) : s.extSeat select = (s, .no .state) := if_pos ht

theorem extSeat_notEnabled (ht : s.testing = false) {select : Byte} {named : Bool × Bool}
    (h : armSelectOf select = some named) (hn : ¬ s.namedEnabled named = true) :
    s.extSeat select = (s, .no .badValue) := by
  unfold State.extSeat
  rw [if_neg (by rw [ht]; decide), h]
  exact if_neg hn

theorem extSeat_badSelect (ht : s.testing = false) {select : Byte} (h : armSelectOf select = none) :
    s.extSeat select = (s, .no .badValue) := by
  unfold State.extSeat
  rw [if_neg (by rw [ht]; decide), h]

/-- EXT_SEAT of enabled arms (R35). -/
theorem extSeat_seated (ht : s.testing = false) {select : Byte} {named : Bool × Bool}
    (h : armSelectOf select = some named) (hn : s.namedEnabled named = true) {seated : State}
    (hs : (s.seatArm named.1 .a).seatArm named.2 .b = seated) :
    s.extSeat select = (seated.followSet .set, (seated.followSet .set).armAnswer) := by
  have harms : s.seatArms named = seated.followSet .set := by
    rw [State.seatArms, sourceAtArmChange_outside ((seatArms_testing _ _ s).trans ht), hs]
  unfold State.extSeat
  rw [if_neg (by rw [ht]; decide), h]
  refine (if_pos hn).trans ?_
  rw [harms]

/-- The seating of one named arm (R35). -/
theorem seatArm_single (w : Arm) (h : (s.arm w).state.seatable = true) :
    (s.seatArm (decide (w = .a)) .a).seatArm (decide (w = .b)) .b = s.enterSeating w := by
  cases w with
  | a => exact (seatArm_not (by simp)).trans (seatArm_of (by simpa using h))
  | b => exact (congrArg (State.seatArm true .b) (seatArm_not (by simp))).trans (seatArm_of (by simpa using h))

theorem namedEnabled_single (w : Arm) (s : State) :
    s.namedEnabled (decide (w = .a), decide (w = .b)) = true ↔ (s.arm w).enabled = true := by
  rw [namedEnabled_iff]
  cases w <;> simp [State.arm]

theorem seatable_iff (a : ArmState) : a.seatable = true ↔ a = .opened ∨ ∃ c, a = .fault c := by
  cases a <;> simp [ArmState.seatable]

/-- Settles O32: by the record of the seated arm and that of the other. -/
theorem extSeatOneArm : Obligations.ExtSeatOneArm := by
  intro s tag select which hf ht hselect henabled hstate ends seated other moved t
  have hother : other = s.restruckArm (otherArm which) := by
    unfold other State.restruckArm reStrike
    cases (s.arm (otherArm which)).solenoid <;> rfl
  have hmoved : s.enterSeating which = moved := by
    rw [enterSeating_eq, ← hother]
    rfl
  exact exec_acked hf (.extSeat select) tag rfl (extSeat_seated ht (armSelectOf_single hselect)
    ((namedEnabled_single which s).mpr henabled) ((seatArm_single which ((seatable_iff _).mpr hstate)).trans hmoved))

/-- Settles O33: by whether each arm is named, enabled and one that EXT_SEAT moves. -/
theorem extSeatRefusalsAndBoth : Obligations.ExtSeatRefusalsAndBoth := by
  refine ⟨fun s tag select hf => ?_, fun s tag hf ht hea heb ha hb hsa hsb hca hcb hsource hoffset => ?_,
    fun s tag select hf ht h h3 => ?_⟩
  · intro namesA namesB
    refine ⟨fun ht => exec_refused hf (.extSeat select) tag rfl (extSeat_testing ht select), fun ht h => ?_,
      fun ht h h3 ha hb => ?_⟩
    · refine exec_refused hf (.extSeat select) tag rfl ?_
      by_cases hrange : 1 ≤ select.toNat ∧ select.toNat ≤ 3
      · refine extSeat_notEnabled ht (armSelectOf_of hrange.1 hrange.2) fun hn => ?_
        obtain ⟨hna, hnb⟩ := (namedEnabled_iff _ s).mp hn
        obtain h | ⟨hname, hoff⟩ | ⟨hname, hoff⟩ := h
        · exact h hrange
        · exact absurd ((hna (decide_eq_true (by omega))).symm.trans hoff) (by decide)
        · exact absurd ((hnb (decide_eq_true (by omega))).symm.trans hoff) (by decide)
      · exact extSeat_badSelect ht (armSelectOf_none hrange)
    · have hnamesA : decide (select.toNat ≠ 2) = true → namesA := fun hn => by
        have hne := of_decide_eq_true hn
        exact (by omega : select.toNat = 1 ∨ select.toNat = 3)
      have hnamesB : decide (select.toNat ≠ 1) = true → namesB := fun hn => by
        have hne := of_decide_eq_true hn
        exact (by omega : select.toNat = 2 ∨ select.toNat = 3)
      have hnone : (s.seatArm (decide (select.toNat ≠ 2)) .a).seatArm (decide (select.toNat ≠ 1)) .b = s := by
        rw [seatArm_not (w := .a), seatArm_not (w := .b)]
        · rintro hm
          obtain ⟨hn, hseat⟩ := (Bool.and_eq_true _ _).mp hm
          exact absurd (hseat.symm.trans (hb (hnamesB hn)).2) (by decide)
        · rintro hm
          obtain ⟨hn, hseat⟩ := (Bool.and_eq_true _ _).mp hm
          exact absurd (hseat.symm.trans (ha (hnamesA hn)).2) (by decide)
      have hseat := extSeat_seated ht (armSelectOf_of h h3) ((namedEnabled_iff _ s).mpr
        ⟨fun hn => (ha (hnamesA hn)).1, fun hn => (hb (hnamesB hn)).1⟩) hnone
      have hxtc : (s.followSet .set).xtc = s.xtc := by simp
      have hexec := exec_acked hf (.extSeat select) tag rfl hseat
      rw [hxtc] at hexec
      refine ⟨hexec, fun hlaw => ?_⟩
      obtain ⟨hsource, hoffset⟩ := hlaw ht
      rw [followSet_same hsource hoffset] at hexec
      exact hexec
  · intro seated
    have hpair : (s.seatArm true .a).seatArm true .b = s.seatedPair true true := by
      rw [seatArms_pair]
      simp only [State.arm, ha, hb, ArmState.seatable, Bool.and_true]
    have hrecs : s.seatedPair true true = State.putAll [.arm .a .seating, .arm .b .seating]
        { s with xtc := { s.xtc with armA := seated s.xtc.armA, armB := seated s.xtc.armB } } := by
      simp [State.seatedPair, State.seatEvents, State.afterSeat, State.seatedArm, hca, hcb, State.arm, seated,
        State.timeAfter]
    have hseat := extSeat_seated ht (select := 3) rfl ((namedEnabled_iff _ s).mpr ⟨fun _ => hea, fun _ => heb⟩)
      (hpair.trans hrecs)
    have hset : (State.putAll [.arm .a .seating, .arm .b .seating]
        { s with xtc := { s.xtc with armA := seated s.xtc.armA, armB := seated s.xtc.armB } }).averagingSet =
          (false, false) := by
      simp [State.averagingSet, ArmRec.inSet, seated]
    rw [followSet_same (by rw [hset]; simpa [sourceOfSet] using hsource) (by simpa using hoffset)] at hseat
    exact exec_acked hf (.extSeat 3) tag rfl (hseat.trans (by simp [State.armAnswer, seated, armStateCode]))
  · intro named moves ends after events t hea heb
    have hmoves : ∀ w, moves w = (named w && (s.arm w).state.seatable) := fun w => by
      unfold moves
      cases (s.arm w).state <;> simp [ArmState.seatable]
    have hafter : ∀ w, after w = s.afterSeat (moves w) (moves (otherArm w)) w := fun w => by
      unfold after State.afterSeat State.restruckArm reStrike
      dsimp only
      cases moves w with
      | true => rfl
      | false => cases (s.arm w).solenoid <;> cases moves (otherArm w) <;> rfl
    have hevents : ∀ w, events w = s.seatEvents (moves w) w := fun w => by
      unfold events State.seatEvents
      rw [hafter]
      cases moves w <;> rfl
    have hpair : (s.seatArm (named .a) .a).seatArm (named .b) .b = State.putAll (events .a ++ events .b)
        { s with xtc := { s.xtc with armA := after .a, armB := after .b } } := by
      rw [seatArms_pair, ← hmoves .a, ← hmoves .b, hevents, hevents, hafter, hafter]
      rfl
    exact exec_acked hf (.extSeat select) tag rfl (extSeat_seated ht (armSelectOf_of h h3)
      ((namedEnabled_iff _ s).mpr ⟨hea, heb⟩) hpair)

end Sys2Proof.Machine
end

section
/-! SUPPORT. PROFILE_READ and the trace records (chapters Test Profiles and Trace Records). -/

namespace Sys2Proof.Machine

variable {s t : State}

/-! ### Trace records (R192 to R194, R198) -/

theorem recordDue_iff (m : Sample) (s : State) : s.recordDue m = true ↔
    s.trb.streaming = true ∧ s.trb.factor ∣ m.index.toNat ∧
    (s.testing = true → ∀ i : Word, s.trb.lastIndex = some i → i.toNat < m.index.toNat) := by
  have hindex : (!s.testing || match s.trb.lastIndex with | none => true | some i => decide (i.toNat < m.index.toNat)) = true ↔
      (s.testing = true → ∀ i : Word, s.trb.lastIndex = some i → i.toNat < m.index.toNat) := by
    cases s.testing <;> cases s.trb.lastIndex <;> simp
  unfold State.recordDue
  rw [Bool.and_eq_true, Bool.and_eq_true, beq_iff_eq, ← Nat.dvd_iff_mod_eq_zero, and_assoc]
  exact and_congr_right fun _ => and_congr_right fun _ => hindex

theorem noteIndex_eq (m : Sample) (s : State) : s.noteIndex m =
    { s with trb := { s.trb with lastIndex := if s.testing then some m.index else s.trb.lastIndex } } := by
  unfold State.noteIndex
  split <;> rfl

/-- A record due in a buffer with room is stored, and the factor then doubles at a fill of 384 (R193, R194). -/
theorem traceTake_stored {m : Sample} (hdue : s.recordDue m = true) (hroom : s.trb.buffer.length < 512) :
    s.traceTake m = State.doubleFactor { s with trb := { s.trb with
      buffer := s.trb.buffer ++ [⟨m, s.trb.gap, s.trb.factor⟩], gap := false,
      lastIndex := if s.testing then some m.index else s.trb.lastIndex } } := by
  rw [State.traceTake, if_pos hdue, noteIndex_eq]
  exact if_pos hroom

theorem traceTake_full {m : Sample} (hdue : s.recordDue m = true) (hfull : 512 ≤ s.trb.buffer.length) :
    s.traceTake m = { s with trb := { s.trb with
      gap := true, lastIndex := if s.testing then some m.index else s.trb.lastIndex } } := by
  rw [State.traceTake, if_pos hdue, noteIndex_eq]
  exact if_neg (Nat.not_lt.mpr hfull)

theorem baseOf_listed {b : Byte} (h : b.toNat ∈ [1, 2, 4, 8, 16, 32, 64]) : baseOf b = some b.toNat := if_pos h

theorem baseOf_unlisted {b : Byte} (h : b.toNat ∉ [1, 2, 4, 8, 16, 32, 64]) : baseOf b = none := if_neg h

theorem traceConfig_testing (ht : s.testing = true) (streaming base : Byte) :
    s.traceConfig streaming base = s.traceConfigTesting streaming := if_pos ht

theorem traceConfig_refused (ht : s.testing = false) {streaming base : Byte}
    (h : flagOf streaming = none ∨ baseOf base = none) : s.traceConfig streaming base = (s, .no .badValue) := by
  unfold State.traceConfig
  rw [if_neg (by rw [ht]; decide)]
  obtain h | h := h
  · rw [h]
  · rw [h]
    cases flagOf streaming <;> rfl

theorem traceConfig_written (ht : s.testing = false) {streaming base : Byte} {on : Bool} {n : Nat}
    (hs : flagOf streaming = some on) (hb : baseOf base = some n) : s.traceConfig streaming base =
      ({ s with trb := { s.trb with streaming := on, base := n, factor := n } }, .ack []) := by
  unfold State.traceConfig
  rw [if_neg (by rw [ht]; decide), hs, hb]

/-- Settles O59: TRACE_CONFIG by its checks, a delivered sample by whether a record is due and by the fill. -/
theorem traceRecords : Obligations.TraceRecords := by
  refine ⟨fun s tag streaming base hf => ⟨fun ht hs => ?_, fun ht hs => ?_, fun ht h => ?_, fun ht hs hb => ?_⟩,
    fun s m hfactor => ?_⟩
  · exact exec_refused hf (.traceConfig streaming base) tag rfl
      ((traceConfig_testing ht _ _).trans (if_neg fun h => hs (by rw [h]; rfl)))
  · exact exec_acked hf (.traceConfig streaming base) tag rfl
      ((traceConfig_testing ht _ _).trans (if_pos (BitVec.eq_of_toNat_eq hs)))
  · exact exec_refused hf (.traceConfig streaming base) tag rfl
      (traceConfig_refused ht (h.imp flagOf_above baseOf_unlisted))
  · exact exec_acked hf (.traceConfig streaming base) tag rfl
      (traceConfig_written ht (flagOf_of_le hs) (baseOf_listed hb))
  · intro due last stored
    have hdue : s.recordDue m = true ↔ due := recordDue_iff m s
    have hfill : stored.buffer.length = s.trb.buffer.length + 1 := by simp [stored]
    refine ⟨fun h => if_neg (h ∘ hdue.mp), fun h hfull => traceTake_full (hdue.mpr h) hfull, fun h hroom hlow => ?_,
      fun h hhigh hroom hsmall => ?_⟩
    · refine (traceTake_stored (hdue.mpr h) hroom).trans (if_neg fun hd => ?_)
      obtain ⟨h384, h64⟩ : 384 ≤ stored.buffer.length ∧ s.trb.factor < 64 := hd
      omega
    · refine (traceTake_stored (hdue.mpr h) hroom).trans (if_pos ?_)
      exact (by omega : 384 ≤ stored.buffer.length ∧ s.trb.factor < 64)

/-! ### PROFILE_READ (R141, section 11.8) -/

theorem stepAnswer_parts (slot : Byte) (r : StepRecord) (written : Bool) :
    let a := stepAnswer slot r written
    a.length = 21 ∧ byteAt a 0 = slot ∧ byteAt a 1 = r.mode ∧ wordAt a 2 = r.rate ∧ halfAt a 6 = r.transition ∧
    byteAt a 8 = r.count ∧ byteAt a 9 = r.quantity1 ∧ wordAt a 10 = r.threshold1 ∧ byteAt a 14 = r.quantity2 ∧
    wordAt a 15 = r.threshold2 ∧ byteAt a 19 = r.release ∧ byteAt a 20 = boolByte written :=
  ⟨rfl, rfl, rfl, word_join _, half_join _, rfl, rfl, word_join _, rfl, word_join _, rfl, rfl⟩

theorem specBytes_parts {f : SpecFields} (hs : f.specimen.length = 16) (hc : f.cast.length = 12) :
    (specBytes f).length = 88 ∧ readSpec (specBytes f) = f := by
  have hw : f.wellFormed = true := specFields_wellFormed_iff.mpr ⟨hs, hc⟩
  exact ⟨specBytes_length hw, readSpec_specBytes hw⟩

theorem padded_length {text : List Byte} {size : Nat} (h : text.length ≤ size) :
    (text ++ List.replicate (size - text.length) 0).length = size := by
  rw [List.length_append, List.length_replicate]
  omega

theorem copyOf_none {b : Byte} (h : 2 < b.toNat) : copyOf b = none := by
  unfold copyOf
  split
  · omega
  · omega
  · omega
  · rfl

theorem copyOf_zero {b : Byte} (h : b.toNat = 0) : copyOf b = some .staged := by
  unfold copyOf
  rw [h] <;> rfl

theorem copyOf_one {b : Byte} (h : b.toNat = 1) : copyOf b = some .active := by
  unfold copyOf
  rw [h] <;> rfl

theorem copyOf_two {b : Byte} (h : b.toNat = 2) : copyOf b = some .pending := by
  unfold copyOf
  rw [h] <;> rfl

/-- PROFILE_READ of a part of a named copy (R141). -/
def State.copyAnswer (part : Byte) (s : State) : CopyName → Answer
  | .staged => s.tsq.staged.readPart part
  | .active => (s.tsq.active.map (Profile.readPart part)).getD (.no .noProfile)
  | .pending => (s.tsq.pendingCopy.map (Profile.readPart part)).getD (.no .noProfile)

/-- PROFILE_READ by the copy and the part code (R141). -/
theorem profileAnswer_eq (copy part : Byte) (s : State) : s.profileAnswer copy part =
    (copyOf copy).elim (.no .badValue)
      fun name => if part ≠ 0xFF ∧ 11 < part.toNat then .no .badValue else s.copyAnswer part name := by
  unfold State.profileAnswer State.copyAnswer
  cases copyOf copy with
  | none => rfl
  | some name => cases name <;> rfl

theorem profileAnswer_bad {copy part : Byte} (h : 2 < copy.toNat ∨ (part ≠ 0xFF ∧ 11 < part.toNat)) (s : State) :
    s.profileAnswer copy part = .no .badValue := by
  rw [profileAnswer_eq]
  obtain h | h := h
  · rw [copyOf_none h]
    rfl
  · cases copyOf copy with
    | none => rfl
    | some name => exact if_pos h

theorem profileAnswer_good {copy part : Byte} {name : CopyName} (hname : copyOf copy = some name)
    (hpart : part = 0xFF ∨ part.toNat ≤ 11) (s : State) : s.profileAnswer copy part = s.copyAnswer part name := by
  rw [profileAnswer_eq, hname]
  exact if_neg fun h => hpart.elim h.1 (Nat.not_le.mpr h.2)

theorem readPart_staged_slot {c : StagedCopy} {f : StagedSpec} (hf : c.spec = some f) {part : Byte} (h : part.toNat < 12) :
    c.readPart part = .ack (stepAnswer part c.slots[part.toNat].record c.slots[part.toNat].written) := by
  have hne : part ≠ 0xFF := fun he => by
    rw [he] at h
    exact absurd h (by decide)
  have hslot : c.slots.toList[part.toNat]? = some c.slots[part.toNat] := by simp [h]
  unfold StagedCopy.readPart
  rw [hf]
  dsimp only
  rw [if_neg hne, hslot]

theorem readPart_step {p : Profile} {part : Byte} (h : part ≠ 0xFF) : p.readPart part =
    (p.steps[part.toNat]?).elim (.no .badValue) fun k => .ack (stepAnswer part k.record true) := by
  unfold Profile.readPart
  rw [if_neg h]
  cases p.steps[part.toNat]? <;> rfl

/-- Settles O49: PROFILE_READ by the copy and the part; the layouts by what reads them back. -/
theorem profileReadAnswers : Obligations.ProfileReadAnswers := by
  refine ⟨fun s tag copy part hf => ?_, stepAnswer_parts, fun f hs hc => ?_, fun f hs hc => ?_, fun p hs hc => ?_, fun k => ?_⟩
  · intro no index
    have hno : ∀ reason, s.profileAnswer copy part = .no reason → exec (.profileRead tag copy part) s = .next (no reason) :=
      fun reason h => exec_refused hf (.profileRead copy part) tag rfl (congrArg (Prod.mk s) h)
    have hack : ∀ bytes, s.profileAnswer copy part = .ack bytes →
        exec (.profileRead tag copy part) s = .next (s.acked 0x1D tag bytes) :=
      fun bytes h => exec_acked hf (.profileRead copy part) tag rfl (congrArg (Prod.mk s) h)
    refine ⟨fun h => hno _ (profileAnswer_bad h s), fun hpart => ⟨fun hc hnone => ?_, fun f hc hsome => ⟨fun hp => ?_, fun h => ?_⟩,
      fun held hheld => ?_⟩⟩
    · refine hno _ ((profileAnswer_good (copyOf_zero hc) hpart s).trans ?_)
      rw [State.copyAnswer, StagedCopy.readPart, hnone]
    · refine hack _ ((profileAnswer_good (copyOf_zero hc) hpart s).trans ?_)
      rw [State.copyAnswer, StagedCopy.readPart, hsome]
      exact if_pos hp
    · exact hack _ ((profileAnswer_good (copyOf_zero hc) hpart s).trans (readPart_staged_slot hsome h))
    · have hanswer : s.profileAnswer copy part = (held.map (Profile.readPart part)).getD (.no .noProfile) := by
        obtain ⟨hc, rfl⟩ | ⟨hc, rfl⟩ := hheld
        · exact profileAnswer_good (copyOf_one hc) hpart s
        · exact profileAnswer_good (copyOf_two hc) hpart s
      refine ⟨fun h => hno _ (by rw [hanswer, h]; rfl), fun p h => ?_⟩
      rw [h] at hanswer
      refine ⟨fun hp => hack _ (hanswer.trans (if_pos hp)), fun hp hlong => hno _ (hanswer.trans ((readPart_step hp).trans ?_)),
        fun k hp hk => hack _ (hanswer.trans ((readPart_step hp).trans ?_))⟩
      · rw [List.getElem?_eq_none hlong]
        rfl
      · rw [hk]
        rfl
  · obtain ⟨hlen, hread⟩ := specBytes_parts hs hc
    exact ⟨hlen, congrArg SpecFields.presence hread, congrArg SpecFields.s0 hread, congrArg SpecFields.l0 hread,
      congrArg SpecFields.lc hread, congrArg SpecFields.eNominal hread, (congrArg SpecFields.specimenLength hread :),
      congrArg SpecFields.specimen hread, congrArg SpecFields.castLength hread, congrArg SpecFields.cast hread,
      congrArg SpecFields.plan hread, congrArg SpecFields.fitLower hread, congrArg SpecFields.fitUpper hread,
      congrArg SpecFields.offset hread, congrArg SpecFields.yieldDrop hread, congrArg SpecFields.transient hread,
      congrArg SpecFields.yieldLimit hread, congrArg SpecFields.yieldEnd hread, congrArg SpecFields.armLoad hread,
      congrArg SpecFields.breakStep hread, congrArg SpecFields.breakFloor hread, congrArg SpecFields.testOverload hread,
      congrArg SpecFields.returnAfter hread, congrArg SpecFields.returnSpeed hread, congrArg SpecFields.traceBase hread,
      congrArg SpecFields.stepCount hread⟩
  · exact ⟨rfl, fun n hn => getLsbD_flagHalf _ n hn, padded_length hs, padded_length hc⟩
  · exact ⟨by cases h : p.spec.plan <;> simp only [Profile.fields, h] <;> rfl, padded_length hs, padded_length hc⟩
  · cases h : k.mode <;> simp only [ProfileStep.record, h] <;> rfl

end Sys2Proof.Machine
end

section
/-! SUPPORT. The fit, the proof stress, the yield search and the finalisation of RES (chapter Result Computation). -/

namespace Sys2Proof.Machine

variable {r : ResItems} {p : ProfileSpec} {m : Sample} {stress strain : Int}

/-! ### Rounding (R1) -/

/-- A quotient between two whole numbers is rounded to one between them. -/
theorem roundDiv_between {n d lo hi : Int} (hd : 0 < d) (hlo : lo * d ≤ n) (hhi : n ≤ hi * d) :
    lo ≤ roundDiv n d ∧ roundDiv n d ≤ hi := by
  obtain ⟨hnear, -⟩ := roundDiv_nearest n d hd.ne'
  constructor
  · by_contra hlt
    have hstep : d * (roundDiv n d + 1) ≤ d * lo := mul_le_mul_of_nonneg_left (by omega) hd.le
    rw [mul_add, mul_one, mul_comm d lo] at hstep
    omega
  · by_contra hlt
    have hstep : d * (hi + 1) ≤ d * roundDiv n d := mul_le_mul_of_nonneg_left (by omega) hd.le
    rw [mul_add, mul_one, mul_comm d hi] at hstep
    omega

theorem roundDiv_mono {n n' d : Int} (hd : 0 < d) (h : n ≤ n') : roundDiv n d ≤ roundDiv n' d := by
  obtain rfl | hlt := h.eq_or_lt
  · exact le_rfl
  obtain ⟨hnear, -⟩ := roundDiv_nearest n d hd.ne'
  obtain ⟨hnear', -⟩ := roundDiv_nearest n' d hd.ne'
  by_contra hle
  have hstep : d * (roundDiv n' d + 1) ≤ d * roundDiv n d := mul_le_mul_of_nonneg_left (by omega) hd.le
  rw [mul_add, mul_one] at hstep
  omega

/-! ### The fit (R171 to R173) -/

theorem modulus_eq (f : FitSums) (eNominal : Int) : f.modulus eNominal =
    if 20 ≤ (f.n : Int) ∧ 0 < f.denominator then
      if eNominal ≤ 2 * f.fitted ∧ f.fitted ≤ 2 * eNominal then ⟨f.fitted, .fit, f.n⟩ else ⟨eNominal, .rejected, f.n⟩
    else ⟨eNominal, .nominal, f.n⟩ :=
  if_congr (and_congr_left fun _ => by omega) rfl rfl

/-- The items with the fit window closed and E formed (R172 to R174). -/
def ResItems.closedFit (p : ProfileSpec) (r : ResItems) : ResItems :=
  { r with fitOpen := false, rpSearch := .searching, prevSearch := none,
           record := { r.record with e := some (r.sums.modulus p.eNominal) } }

theorem closeFit_eq (p : ProfileSpec) (r : ResItems) : r.closeFit p = if r.fitOpen = true then r.closedFit p else r := rfl

theorem yieldFound_eq (i : Word) (r : ResItems) : r.yieldFound i =
    { r with firstYield := match r.firstYield with | some first => some first | none => some i } := by
  obtain ⟨_, _, _, _, _, _, _, _, _, firstYield, _⟩ := r
  cases firstYield <;> rfl

theorem takeFit_shut (h : r.fitOpen = false) : r.takeFit p m stress = r := if_neg (by rw [h]; decide)

theorem takeFit_closing (ho : r.fitOpen = true) (h : m.source = .xhead ∨ p.fitUpper < stress) :
    r.takeFit p m stress = r.closedFit p :=
  (if_pos ho).trans ((if_pos h).trans (if_pos ho))

/-- A sample between the limits of the fit under an extensometer source enters the sums (R171, R172). -/
theorem takeFit_entering (ho : r.fitOpen = true) (h : ¬ (m.source = .xhead ∨ p.fitUpper < stress))
    (hs : m.strain = some strain) (he : p.fitLower ≤ stress ∧ m.source ≠ .none) : r.takeFit p m stress =
      if r.sums.n + 1 = 4294967295 then ResItems.closedFit p { r with sums := r.sums.enter strain stress }
      else { r with sums := r.sums.enter strain stress } := by
  unfold ResItems.takeFit
  rw [if_pos ho, if_neg h, hs]
  dsimp only
  rw [if_pos he, closeFit_eq, if_pos ho]
  rfl

theorem takeFit_passing (h : ¬ (m.source = .xhead ∨ p.fitUpper < stress))
    (he : ¬ (m.strain ≠ none ∧ p.fitLower ≤ stress ∧ m.source ≠ .none)) : r.takeFit p m stress = r := by
  unfold ResItems.takeFit
  by_cases ho : r.fitOpen = true
  · rw [if_pos ho, if_neg h]
    cases hs : m.strain with
    | none => rfl
    | some strain => exact if_neg fun hl => he ⟨by simp [hs], hl⟩
  · exact if_neg ho

/-! ### The proof stress (R174 to R176) -/

theorem takeProof_idle (h : r.rpSearch ≠ .searching) : r.takeProof p m stress strain = (r, none) := by
  unfold ResItems.takeProof
  cases hs : r.rpSearch with
  | searching => exact absurd hs h
  | _ => rfl

theorem takeProof_below {e : EFigure} (hs : r.rpSearch = .searching) (he : r.record.e = some e)
    (h : plasticStrain stress strain e.e < p.offset) : r.takeProof p m stress strain =
      ({ r with prevSearch := some ⟨m.index, stress, strain, plasticStrain stress strain e.e⟩ }, none) := by
  unfold ResItems.takeProof
  rw [hs, he]
  exact if_pos h

theorem takeProof_window {e : EFigure} (hs : r.rpSearch = .searching) (he : r.record.e = some e)
    (h : p.offset ≤ plasticStrain stress strain e.e) (hk : r.prevSearch = none) : r.takeProof p m stress strain =
      ({ r with rpSearch := .window, record := { r.record with rpWindow := true } }, none) := by
  unfold ResItems.takeProof
  rw [hs, he]
  dsimp only
  rw [if_neg (Int.not_lt.mpr h), hk]

theorem takeProof_found {e : EFigure} {k : SearchSample} (hs : r.rpSearch = .searching) (he : r.record.e = some e)
    (h : p.offset ≤ plasticStrain stress strain e.e) (hk : r.prevSearch = some k) :
    let rp := interpolate k.stress stress p.offset k.plastic (plasticStrain stress strain e.e)
    let strainAt := interpolate k.strain strain p.offset k.plastic (plasticStrain stress strain e.e)
    r.takeProof p m stress strain =
      ({ r with
         rpSearch := .done
         firstYield := match r.firstYield with | some first => some first | none => some m.index
         record := { r.record with rp := some ⟨rp, strainAt, m.index, m.source⟩ } },
       some (.yield .rp rp)) := by
  unfold ResItems.takeProof
  rw [hs, he]
  dsimp only
  rw [if_neg (Int.not_lt.mpr h), hk]
  dsimp only
  rw [yieldFound_eq]

/-- An interpolation between two values lies between them (R175). -/
theorem interpolate_between (before now : Int) {offset p0 p1 : Int} (h0 : p0 < offset) (h1 : offset ≤ p1) :
    min before now ≤ interpolate before now offset p0 p1 ∧ interpolate before now offset p0 p1 ≤ max before now := by
  have hd : 0 < p1 - p0 := by omega
  unfold interpolate
  obtain hle | hle := le_total before now
  · obtain ⟨hlo, hhi⟩ := roundDiv_between (n := (now - before) * (offset - p0)) (lo := 0) (hi := now - before) hd
      (by rw [zero_mul]; exact mul_nonneg (by omega) (by omega)) (mul_le_mul_of_nonneg_left (by omega) (by omega))
    omega
  · obtain ⟨hlo, hhi⟩ := roundDiv_between (n := (now - before) * (offset - p0)) (lo := now - before) (hi := 0) hd
      (mul_le_mul_of_nonpos_left (by omega) (by omega))
      (by rw [zero_mul]; exact mul_nonpos_of_nonpos_of_nonneg (by omega) (by omega))
    omega

/-! ### Finalisation (R183) -/

theorem finalise_eq (p : ProfileSpec) (r : ResItems) : r.finalise p =
    { r.closeFit p with
      rpSearch := (r.closeFit p).rpSearch.finalised
      yieldSearch := (r.closeFit p).yieldSearch.finalised
      record := { (r.closeFit p).record with
        ag := r.fmaxSample.bind fun f => finalPlastic (r.closeFit p).record.e f.stress f.strain } } := by
  have hforce : (r.closeFit p).fmaxSample = r.fmaxSample := by
    rw [closeFit_eq]
    split <;> rfl
  unfold ResItems.finalise
  rw [← hforce]

/-- Settles O58: the proof stress by the previous search sample, the fit by the class of the sample, the finalisation by
whether the fit window has been closed. -/
theorem proofStressAndFinalisation : Obligations.ProofStressAndFinalisation := by
  refine ⟨fun p m stress strain r e k hs he hk hbelow => ?_, fun p m stress strain r => ⟨fun e hs he hk => ⟨fun h => ?_, fun h => ?_⟩,
    takeProof_idle⟩, fun p m stress r => ?_, fun p r => ?_⟩
  · intro plastic t
    exact ⟨fun h => takeProof_below hs he h, fun h =>
      ⟨takeProof_found hs he h hk, interpolate_between k.stress stress hbelow h⟩⟩
  · exact takeProof_below hs he h
  · exact takeProof_window hs he h hk
  · intro closed closes enters x f entered
    have hclosed : ∀ q : ResItems, q.closedFit p = closed q := fun q => by
      rw [ResItems.closedFit, modulus_eq]
      rfl
    have hentered : ∀ strain, m.strain = some strain → { r with sums := r.sums.enter strain stress } = entered := fun strain h => by
      unfold entered x
      rw [h]
      rfl
    refine ⟨takeFit_shut, fun ho h => (takeFit_closing ho h).trans (hclosed r), fun ho h he hn => ?_, fun ho h he hn => ?_,
      fun ho h he => takeFit_passing h he, ?_⟩
    · obtain ⟨strain, hs⟩ := Option.ne_none_iff_exists'.mp he.1
      rw [takeFit_entering ho h hs he.2, if_neg hn, hentered strain hs]
    · obtain ⟨strain, hs⟩ := Option.ne_none_iff_exists'.mp he.1
      rw [takeFit_entering ho h hs he.2, if_pos hn, hentered strain hs, hclosed]
    · rw [closeFit_eq, hclosed]
  · intro n d fit modulus e t
    have hmodulus : r.sums.modulus p.eNominal = modulus := modulus_eq _ _
    have hag : ∀ g, (r.fmaxSample.bind fun f => finalPlastic g f.stress f.strain) =
        (match r.fmaxSample, g with
          | some f, some g => f.strain.map fun x => x - roundDiv (f.stress * 10000) g.e
          | _, _ => none) := fun g => by
      cases r.fmaxSample with
      | none => rfl
      | some f =>
        obtain ⟨_, _, _, strain⟩ := f
        cases g <;> cases strain <;> rfl
    have ht : t = _ := finalise_eq p r
    cases ho : r.fitOpen with
    | true =>
      have he : e = some modulus := if_pos ho
      rw [closeFit_eq, if_pos ho, ResItems.closedFit, hmodulus] at ht
      rw [ht, he]
      exact ⟨rfl, rfl, (if_pos (.inl rfl)).symm, by cases r.yieldSearch <;> rfl,
        congrArg (fun ag => { r.record with e := some modulus, ag := ag }) (hag _)⟩
    | false =>
      have he : e = r.record.e := if_neg (by rw [ho]; decide)
      rw [closeFit_eq, if_neg (by rw [ho]; decide)] at ht
      rw [ht, he]
      exact ⟨ho, rfl, by cases r.rpSearch <;> rfl, by cases r.yieldSearch <;> rfl,
        congrArg (fun ag => { r.record with ag := ag }) (hag _)⟩

end Sys2Proof.Machine
end

section
/-! SUPPORT. What a qualifying sample does in RES, the record of a break, and the order of the figures (chapter Result
Computation). -/

namespace Sys2Proof.Machine

variable {r : ResItems} {p : ProfileSpec} {m : Sample} {load stress strain : Int}

/-! ### The maximum force (R170) -/

theorem takeForce_higher (h : ∀ f : FmaxSample, r.fmaxSample = some f → f.load < load) : r.takeForce m load stress =
    { r with fmaxSample := some ⟨m.index, load, stress, m.strain⟩
             record := { r.record with fmax := some ⟨load, m.index⟩, rm := some stress } } := by
  unfold ResItems.takeForce
  cases hf : r.fmaxSample with
  | none => rfl
  | some f => exact if_pos (decide_eq_true (h f hf))

theorem takeForce_kept (h : ¬ ∀ f : FmaxSample, r.fmaxSample = some f → f.load < load) :
    r.takeForce m load stress = r := by
  unfold ResItems.takeForce
  cases hf : r.fmaxSample with
  | none => exact absurd (fun f hn => absurd (hf.symm.trans hn) (by simp)) h
  | some f =>
    refine if_neg fun hlt => h fun g hg => ?_
    obtain rfl : f = g := Option.some.inj (hf.symm.trans hg)
    exact of_decide_eq_true hlt

/-! ### The yield search (R177 to R180) -/

theorem takeYield_upper (h : r.yieldSearch = .upper) (i : Word) :
    r.takeYield p i stress strain = r.searchUpper p i stress strain := by
  unfold ResItems.takeYield
  rw [h]

theorem takeYield_lower (h : r.yieldSearch = .lower) (i : Word) :
    r.takeYield p i stress strain = (r.searchLower p i stress strain, none) := by
  unfold ResItems.takeYield
  rw [h]

theorem takeYield_over (h : r.yieldSearch = .complete ∨ r.yieldSearch = .lapsed) (i : Word) :
    r.takeYield p i stress strain = (r, none) := by
  unfold ResItems.takeYield
  obtain h | h := h <;> rw [h]

/-- The items at the declaration of ReH, before the fit window is closed (R178). -/
def ResItems.declaredAt (i : Word) (c : CurvePoint) (r : ResItems) : ResItems :=
  { r with record := { r.record with reh := some c }, declared := some i, yieldSearch := .lower }

/-- A candidate below which the stress has not dropped enough stays or is replaced by a greater stress (R177). -/
theorem searchUpper_candidate {c : CurvePoint} (hl : strain < p.yieldLimit) (hc : r.candidate = some c) (i : Word) :
    r.searchUpper p i stress strain =
      if p.fitUpper < c.stress ∧ stress ≤ declareLevel c.stress p.yieldDrop then
        (((r.declaredAt i c).closeFit p).yieldFound i, some (.yield .reh c.stress))
      else if c.stress < stress then ({ r with candidate := some ⟨i, stress, strain⟩ }, none) else (r, none) := by
  unfold ResItems.searchUpper
  rw [if_neg (Int.not_le.mpr hl)]
  split
  case h_1 hn => exact absurd (hn.symm.trans hc) (by simp)
  case h_2 c' hc' =>
    obtain rfl : c' = c := Option.some.inj (hc'.symm.trans hc)
    rfl

theorem searchUpper_first (hl : strain < p.yieldLimit) (hc : r.candidate = none) (i : Word) :
    r.searchUpper p i stress strain = ({ r with candidate := some ⟨i, stress, strain⟩ }, none) := by
  unfold ResItems.searchUpper
  rw [if_neg (Int.not_le.mpr hl), hc]

theorem lowerOf_eq (rel : Option Int) (stress : Int) :
    lowerOf rel stress = some (match rel with | some l => min l stress | none => stress) := by
  cases rel with
  | none => rfl
  | some l =>
    by_cases h : stress < l
    · exact (if_pos h).trans (congrArg some (min_eq_right h.le).symm)
    · exact (if_neg h).trans (congrArg some (min_eq_left (not_lt.mp h)).symm)

/-- The yield range ends, or the stress is compared for ReL after the transient (R179, R180). -/
theorem searchLower_declared {h : CurvePoint} {d : Word} (hh : r.record.reh = some h) (hd : r.declared = some d) (i : Word) :
    r.searchLower p i stress strain =
      if h.stress < stress ∨ h.strain + p.yieldEnd < strain then
        { r with yieldSearch := .complete, record := { r.record with ae := some (strain - h.strain) } }
      else if (d.toNat : Int) + p.transient < (i.toNat : Int) then
        { r with record := { r.record with rel := lowerOf r.record.rel stress } }
      else r := by
  unfold ResItems.searchLower
  rw [hh, hd]

/-! ### A qualifying sample and the break (R168, R169, R182 to R184) -/

/-- The yield search of a sample, which one without strain passes by (R177). -/
def ResItems.yieldPart (p : ProfileSpec) (m : Sample) (stress : Int) (r : ResItems) : ResItems × Option Event :=
  match m.strain with
  | some strain => r.takeYield p m.index stress strain
  | none => (r, none)

/-- The proof-stress search of a sample by whether it was SEARCHING before the sample (R174). -/
def ResItems.proofPart (p : ProfileSpec) (m : Sample) (stress : Int) (search : RpSearch) (r : ResItems) :
    ResItems × Option Event :=
  match m.strain, search with
  | some strain, .searching => r.takeProof p m stress strain
  | _, _ => (r, none)

theorem take_eq (p : ProfileSpec) (m : Sample) (load stress : Int) (r : ResItems) : r.take p m load stress =
    let searched := (r.takeForce m load stress).yieldPart p m stress
    let proved := (searched.1.takeFit p m stress).proofPart p m stress r.rpSearch
    ({ proved.1 with lastTaken := some ⟨m.index, stress, m.strain⟩ }, searched.2.toList ++ proved.2.toList) := by
  unfold ResItems.take ResItems.yieldPart ResItems.proofPart
  cases m.strain with
  | none => rfl
  | some strain =>
    cases r.rpSearch <;> rfl

theorem finalise_lastTaken (p : ProfileSpec) (r : ResItems) : (r.finalise p).lastTaken = r.lastTaken := by
  rw [finalise_eq]
  dsimp only
  rw [closeFit_eq]
  split <;> rfl

/-- A qualifying sample is taken with the state before it retained (R168, R169). -/
theorem resTake_taken {s : State} {p : Profile} (hp : s.tsq.active = some p) (hh : m.held = false) (hl : m.load = some load)
    (hs : m.stress = some stress) : s.resTake m = State.putAll (s.res.items.take p.spec m load stress).2
      { s with res := { items := (s.res.items.take p.spec m load stress).1, retained := some s.res.items } } := by
  unfold State.resTake
  rw [hp, hh, hl, hs]

theorem resTake_passed {s : State} (h : m.held = true ∨ m.stress = none) : s.resTake m = s := by
  unfold State.resTake
  split
  case h_1 hp hh hl hs => simp_all
  case h_2 => rfl

/-- Settles O60: the parts of a sample by `take_eq`, the yield search by its state, the break by the retained state. -/
theorem yieldAndBreakRecord : Obligations.YieldAndBreakRecord := by
  refine ⟨fun s m => ⟨fun p load stress hp hh hl hs => ?_, resTake_passed⟩, fun p i stress strain r => ?_,
    fun s p fracture hp => ?_⟩
  · intro r higher forced hhigher hkept searched fitted proved
    have hforced : r.takeForce m load stress = forced := by
      by_cases h : higher
      · rw [hhigher h, takeForce_higher h]
      · rw [hkept h, takeForce_kept h]
    have hsearched : forced.yieldPart p.spec m stress = searched := by
      unfold searched ResItems.yieldPart
      cases m.strain <;> rfl
    have hproved : fitted.proofPart p.spec m stress r.rpSearch = proved := by
      unfold proved ResItems.proofPart
      cases m.strain <;> cases r.rpSearch <;> rfl
    have htake : r.take p.spec m load stress =
        ({ proved.1 with lastTaken := some ⟨m.index, stress, m.strain⟩ }, searched.2.toList ++ proved.2.toList) := by
      rw [take_eq, hforced, hsearched, ← hproved]
    rw [resTake_taken hp hh hl hs, htake]
  · intro t here
    refine ⟨fun hu hl => ?_, fun hu hl hc => ?_, fun c hu hl hc => ?_, fun h d hlow hh hd => ?_, fun h => takeYield_over h i⟩
    · exact (takeYield_upper hu i).trans (if_pos hl)
    · exact (takeYield_upper hu i).trans (searchUpper_first hl hc i)
    · intro declares declared
      have ht : t = _ := (takeYield_upper hu i).trans (searchUpper_candidate hl hc i)
      refine ⟨fun hd => ?_, fun hd hlt => ht.trans ((if_neg hd).trans (if_pos hlt)),
        fun hd hle => ht.trans ((if_neg hd).trans (if_neg (Int.not_lt.mpr hle)))⟩
      have hfirst : ((r.declaredAt i c).closeFit p).firstYield = r.firstYield := by
        rw [closeFit_eq]
        split <;> rfl
      refine ht.trans ((if_pos hd).trans ?_)
      rw [yieldFound_eq, hfirst]
      cases r.firstYield <;> rfl
    · intro ends compared
      have ht : t = _ := (takeYield_lower hlow i).trans (congrArg (fun q => (q, none)) (searchLower_declared hh hd i))
      refine ⟨fun he => ht.trans (congrArg (fun q => (q, none)) (if_pos he)), fun he hc => ?_, fun he hc => ?_⟩
      · rw [ht, if_neg he, if_pos hc]
        exact congrArg (fun l => ({ r with record := { r.record with rel := l } }, none)) (lowerOf_eq _ _)
      · rw [ht, if_neg he, if_neg hc]
  · intro back final a
    have hback : s.res.retained.getD s.res.items = back := by
      unfold back
      cases s.res.retained <;> rfl
    have ha : (final.lastTaken.bind fun t => finalPlastic final.record.e t.stress t.strain) = a := by
      have htaken : final.lastTaken = back.lastTaken := finalise_lastTaken p.spec back
      rw [htaken]
      unfold a
      cases back.lastTaken with
      | none => rfl
      | some k =>
        obtain ⟨_, _, strain⟩ := k
        cases final.record.e <;> cases strain <;> rfl
    unfold State.resBreak
    rw [hp]
    dsimp only
    rw [hback, ← ha]
    rfl

/-! ### The order of the figures (R170, R173, R177 to R180) -/

theorem clampTo_mono {lo hi x y : Int} (h : x ≤ y) (hb : lo ≤ hi) : clampTo lo hi x ≤ clampTo lo hi y := by
  unfold clampTo
  split_ifs <;> omega

theorem stressOf_mono {x y : Int} (hs : 0 < p.s0) (h : x ≤ y) : stressOf p x ≤ stressOf p y :=
  clampTo_mono (roundDiv_mono hs (by omega)) (by decide)

/-- E is the nominal modulus or a fitted one within a factor 2 of it (R173). -/
theorem modulus_within {eNominal : Int} (h : 0 ≤ eNominal) (f : FitSums) :
    eNominal ≤ 2 * (f.modulus eNominal).e ∧ (f.modulus eNominal).e ≤ 2 * eNominal := by
  unfold FitSums.modulus
  split
  case isTrue =>
    split
    case isTrue hfit => exact hfit
    case isFalse => constructor <;> dsimp only <;> omega
  case isFalse => constructor <;> dsimp only <;> omega

/-- What the figures of RES say of the qualifying samples that it has taken, each with its load. -/
structure Figured (p : ProfileSpec) (seen : List (Sample × Int)) (r : ResItems) : Prop where
  highest : ∀ x ∈ seen, ∃ f : FmaxSample, r.fmaxSample = some f ∧ x.2 ≤ f.load
  fmax : r.record.fmax = r.fmaxSample.map fun f => ⟨f.load, f.index⟩
  rm : r.record.rm = r.fmaxSample.map fun f => f.stress
  sampled : ∀ f : FmaxSample, r.fmaxSample = some f →
    f.stress = stressOf p f.load ∧ ∃ x ∈ seen, x.2 = f.load ∧ x.1.index = f.index
  candidate : ∀ c : CurvePoint, r.candidate = some c → ∃ x ∈ seen, c.stress = stressOf p x.2
  reh : ∀ c : CurvePoint, r.record.reh = some c → ∃ x ∈ seen, c.stress = stressOf p x.2
  rel : ∀ (c : CurvePoint) (l : Int), r.record.reh = some c → r.record.rel = some l → l ≤ c.stress
  early : r.yieldSearch = .upper → r.record.rel = none
  modulus : ∀ e : EFigure, r.record.e = some e → p.eNominal ≤ 2 * e.e ∧ e.e ≤ 2 * p.eNominal

theorem figured_started (p : ProfileSpec) : Figured p [] (Res.started p).items where
  highest := fun x hx => absurd hx (by simp)
  fmax := rfl
  rm := rfl
  sampled := fun f hf => absurd hf (by simp [Res.started, Res.powerOn])
  candidate := fun c hc => absurd hc (by simp [Res.started, Res.powerOn])
  reh := fun c hc => absurd hc (by simp [Res.started, ResultRecord.empty])
  rel := fun c l hc => absurd hc (by simp [Res.started, ResultRecord.empty])
  early := fun _ => rfl
  modulus := fun e he => absurd he (by simp [Res.started, ResultRecord.empty])

variable {seen : List (Sample × Int)}

/-- Part 1 takes the sample in (R170). -/
theorem Figured.takeForce (h : Figured p seen r) (m : Sample) (load : Int) :
    Figured p (seen ++ [(m, load)]) (r.takeForce m load (stressOf p load)) := by
  have hcandidate : ∀ c : CurvePoint, r.candidate = some c → ∃ x ∈ seen ++ [(m, load)], c.stress = stressOf p x.2 :=
    fun c hc => (h.candidate c hc).imp fun _ hx => hx.imp_left (List.mem_append_left _)
  have hreh : ∀ c : CurvePoint, r.record.reh = some c → ∃ x ∈ seen ++ [(m, load)], c.stress = stressOf p x.2 :=
    fun c hc => (h.reh c hc).imp fun _ hx => hx.imp_left (List.mem_append_left _)
  by_cases hhigher : ∀ f : FmaxSample, r.fmaxSample = some f → f.load < load
  · rw [takeForce_higher hhigher]
    refine ⟨fun x hx => ⟨_, rfl, ?_⟩, rfl, rfl, fun f hf => ?_, hcandidate, hreh, h.rel, h.early, h.modulus⟩
    · obtain hx | hx := List.mem_append.mp hx
      · obtain ⟨f, hf, hle⟩ := h.highest x hx
        exact hle.trans (hhigher f hf).le
      · rw [List.mem_singleton.mp hx]
    · obtain rfl := Option.some.inj hf
      exact ⟨rfl, (m, load), by simp, rfl, rfl⟩
  · rw [takeForce_kept hhigher]
    refine ⟨fun x hx => ?_, h.fmax, h.rm, fun f hf => ?_, hcandidate, hreh, h.rel, h.early, h.modulus⟩
    · obtain hx | hx := List.mem_append.mp hx
      · exact h.highest x hx
      · simp only [not_forall, not_lt] at hhigher
        obtain ⟨f, hf, hle⟩ := hhigher
        exact ⟨f, hf, by rw [List.mem_singleton.mp hx]; exact hle⟩
    · exact (h.sampled f hf).imp_right fun ⟨x, hx, heq⟩ => ⟨x, List.mem_append_left _ hx, heq⟩

theorem Figured.closedFit (he : 0 ≤ p.eNominal) (h : Figured p seen r) : Figured p seen (r.closedFit p) :=
  ⟨h.highest, h.fmax, h.rm, h.sampled, h.candidate, h.reh, h.rel, h.early,
    fun _ hs => Option.some.inj hs ▸ modulus_within he r.sums⟩

theorem Figured.closeFit (he : 0 ≤ p.eNominal) (h : Figured p seen r) : Figured p seen (r.closeFit p) := by
  rw [closeFit_eq]
  split
  · exact h.closedFit he
  · exact h

theorem Figured.yieldFound (i : Word) (h : Figured p seen r) : Figured p seen (r.yieldFound i) := by
  rw [yieldFound_eq]
  exact ⟨h.highest, h.fmax, h.rm, h.sampled, h.candidate, h.reh, h.rel, h.early, h.modulus⟩

/-- A new candidate is a sample taken (R177). -/
theorem Figured.newCandidate (c : CurvePoint) (hc : ∃ x ∈ seen, c.stress = stressOf p x.2) (h : Figured p seen r) :
    Figured p seen { r with candidate := some c } :=
  ⟨h.highest, h.fmax, h.rm, h.sampled, fun _ hs => Option.some.inj hs ▸ hc, h.reh, h.rel, h.early, h.modulus⟩

/-- ReH is the candidate, and no ReL is formed before it (R178). -/
theorem Figured.declaredAt {c : CurvePoint} (i : Word) (hc : r.candidate = some c) (hu : r.yieldSearch = .upper)
    (h : Figured p seen r) : Figured p seen (r.declaredAt i c) :=
  ⟨h.highest, h.fmax, h.rm, h.sampled, h.candidate, fun _ hs => Option.some.inj hs ▸ h.candidate c hc,
    fun _ l _ hl => absurd ((h.early hu).symm.trans hl) (by simp), fun hs => absurd hs (by simp [ResItems.declaredAt]), h.modulus⟩

theorem Figured.searchUpper (he : 0 ≤ p.eNominal) (i : Word) (hs : ∃ x ∈ seen, stress = stressOf p x.2)
    (hu : r.yieldSearch = .upper) (h : Figured p seen r) : Figured p seen (r.searchUpper p i stress strain).1 := by
  by_cases hl : p.yieldLimit ≤ strain
  · rw [ResItems.searchUpper, if_pos hl]
    exact ⟨h.highest, h.fmax, h.rm, h.sampled, h.candidate, h.reh, h.rel, fun hn => absurd hn (by simp), h.modulus⟩
  · have hlow := not_le.mp hl
    cases hc : r.candidate with
    | none =>
      rw [searchUpper_first hlow hc]
      exact h.newCandidate _ hs
    | some c =>
      rw [searchUpper_candidate hlow hc]
      split
      · exact ((h.declaredAt i hc hu).closeFit he).yieldFound i
      · split
        · exact h.newCandidate _ hs
        · exact h

/-- ReL is at most the stress of a sample that does not rise above ReH (R179). -/
theorem Figured.searchLower (i : Word) (hl : r.yieldSearch = .lower) (h : Figured p seen r) :
    Figured p seen (r.searchLower p i stress strain) := by
  cases hh : r.record.reh with
  | none =>
    rw [ResItems.searchLower, hh]
    exact h
  | some c =>
    cases hd : r.declared with
    | none =>
      rw [ResItems.searchLower, hh, hd]
      exact h
    | some d =>
      rw [searchLower_declared hh hd]
      split
      case isTrue =>
        exact ⟨h.highest, h.fmax, h.rm, h.sampled, h.candidate, h.reh, h.rel, fun hn => absurd hn (by simp), h.modulus⟩
      case isFalse hends =>
        split
        case isFalse => exact h
        case isTrue =>
          refine ⟨h.highest, h.fmax, h.rm, h.sampled, h.candidate, h.reh, fun c' l hc hrel => ?_,
            fun hn => absurd (hl.symm.trans hn) (by simp), h.modulus⟩
          obtain rfl : c = c' := Option.some.inj (hh.symm.trans hc)
          have hle : stress ≤ c.stress := not_lt.mp fun hlt => hends (.inl hlt)
          rw [lowerOf_eq] at hrel
          obtain rfl := Option.some.inj hrel
          cases hr : r.record.rel with
          | none => exact hle
          | some l => exact (min_le_right l stress).trans hle

theorem Figured.yieldPart (he : 0 ≤ p.eNominal) (m : Sample) (hs : ∃ x ∈ seen, stress = stressOf p x.2)
    (h : Figured p seen r) : Figured p seen (r.yieldPart p m stress).1 := by
  unfold ResItems.yieldPart
  split
  case h_2 => exact h
  case h_1 strain _ =>
    cases hy : r.yieldSearch with
    | upper => rw [takeYield_upper hy]; exact h.searchUpper he m.index hs hy
    | lower => rw [takeYield_lower hy]; exact h.searchLower m.index hy
    | complete => rw [takeYield_over (.inl hy)]; exact h
    | lapsed => rw [takeYield_over (.inr hy)]; exact h

theorem Figured.entered (f : FitSums) (h : Figured p seen r) : Figured p seen { r with sums := f } :=
  ⟨h.highest, h.fmax, h.rm, h.sampled, h.candidate, h.reh, h.rel, h.early, h.modulus⟩

theorem Figured.takeFit (he : 0 ≤ p.eNominal) (m : Sample) (stress : Int) (h : Figured p seen r) :
    Figured p seen (r.takeFit p m stress) := by
  cases ho : r.fitOpen with
  | false => rw [takeFit_shut ho]; exact h
  | true =>
    by_cases hc : m.source = .xhead ∨ p.fitUpper < stress
    · rw [takeFit_closing ho hc]
      exact h.closedFit he
    by_cases hn : m.strain ≠ none ∧ p.fitLower ≤ stress ∧ m.source ≠ .none
    · obtain ⟨strain, hs⟩ := Option.ne_none_iff_exists'.mp hn.1
      rw [takeFit_entering ho hc hs hn.2]
      split
      · exact (h.entered _).closedFit he
      · exact h.entered _
    · rw [takeFit_passing hc hn]
      exact h

theorem Figured.proofPart (m : Sample) (stress : Int) (search : RpSearch) (h : Figured p seen r) :
    Figured p seen (r.proofPart p m stress search).1 := by
  unfold ResItems.proofPart
  split
  case h_2 => exact h
  case h_1 strain _ _ =>
    unfold ResItems.takeProof
    split
    case h_2 => exact h
    case h_1 =>
      dsimp only
      split
      · exact ⟨h.highest, h.fmax, h.rm, h.sampled, h.candidate, h.reh, h.rel, h.early, h.modulus⟩
      · split
        · exact ⟨h.highest, h.fmax, h.rm, h.sampled, h.candidate, h.reh, h.rel, h.early, h.modulus⟩
        · exact Figured.yieldFound _ ⟨h.highest, h.fmax, h.rm, h.sampled, h.candidate, h.reh, h.rel, h.early, h.modulus⟩

/-- The figures after one more qualifying sample (R168). -/
theorem Figured.take (he : 0 ≤ p.eNominal) (m : Sample) (load : Int) (h : Figured p seen r) :
    Figured p (seen ++ [(m, load)]) (r.take p m load (stressOf p load)).1 := by
  have hs : ∃ x ∈ seen ++ [(m, load)], stressOf p load = stressOf p x.2 := ⟨(m, load), by simp, rfl⟩
  have hall := ((((h.takeForce m load).yieldPart he m hs).takeFit he m (stressOf p load)).proofPart m (stressOf p load)
    r.rpSearch)
  rw [take_eq]
  exact ⟨hall.highest, hall.fmax, hall.rm, hall.sampled, hall.candidate, hall.reh, hall.rel, hall.early, hall.modulus⟩

theorem Figured.foldl (he : 0 ≤ p.eNominal) (samples : List (Sample × Int)) (h : Figured p seen r) :
    Figured p (seen ++ samples)
      (samples.foldl (fun (q : ResItems) x => (q.take p x.1 x.2 (stressOf p x.2)).1) r) := by
  induction samples generalizing seen r with
  | nil => rwa [List.append_nil]
  | cons x rest ih =>
    have hrest := ih (h.take he x.1 x.2)
    rwa [List.append_assoc] at hrest

/-- Settles O57, by induction on the samples: the figures are those of the samples taken. -/
theorem resultOrder : Obligations.ResultOrder := by
  intro p samples hs he r
  have h : Figured p samples r := (figured_started p).foldl he samples
  have hfmax : ∀ f : FmaxFigure, r.record.fmax = some f →
      ∃ g : FmaxSample, r.fmaxSample = some g ∧ f = ⟨g.load, g.index⟩ := fun f hf => by
    rw [h.fmax] at hf
    obtain ⟨g, hg, rfl⟩ := Option.map_eq_some_iff.mp hf
    exact ⟨g, hg, rfl⟩
  refine ⟨fun x hx => ?_, fun f hf => ?_, fun f hf => ?_, fun c hc => ?_, h.rel, h.modulus⟩
  · obtain ⟨g, hg, hle⟩ := h.highest x hx
    exact ⟨⟨g.load, g.index⟩, by rw [h.fmax, hg]; rfl, hle⟩
  · obtain ⟨g, hg, rfl⟩ := hfmax f hf
    exact (h.sampled g hg).2
  · obtain ⟨g, hg, rfl⟩ := hfmax f hf
    rw [h.rm, hg, Option.map_some, (h.sampled g hg).1]
  · obtain ⟨x, hx, hstress⟩ := h.reh c hc
    obtain ⟨g, hg, hle⟩ := h.highest x hx
    refine ⟨g.stress, by rw [h.rm, hg]; rfl, ?_⟩
    rw [hstress, (h.sampled g hg).1]
    exact stressOf_mono hs hle

end Sys2Proof.Machine
end
